-- ==== Sys2Proof/Word.lean ====
section
/-! DEFINITION. The word types of the Olmena 2F: bytes on the ports, 16-bit and 32-bit quantities added modulo
their width (spec 00 section 5.2), and the 16-bit linear samples of the lines (spec 02 R32). -/

namespace Sys2Proof

/-- A byte of a port message (R176). -/
abbrev Byte := BitVec 8

/-- A 16-bit quantity: sequence numbers, generations, millisecond counters, channel counters. -/
abbrev Word := BitVec 16

/-- A 32-bit quantity: timestamps, transits, the channel sample counter. -/
abbrev DWord := BitVec 32

/-- A 16-bit linear sample in two's complement (R32). -/
abbrev Sample := BitVec 16

end Sys2Proof
end

