-- ==== Sys2Proof/Config.lean ====
section
/-! DEFINITION. The fixed numbers of the Olmena 2F, each with the rule that gives it, and the free values of the model:
the number a sine sample has, and what a detector measures in the samples of a block, which the spec does not state. -/

namespace Sys2Proof

/-- One tone measured in a detector's block: its frequency in tenths of a hertz and its level in tenths of a dBm0
(R118, R122, R123; log 8). -/
structure Tone where
  freq  : Nat
  level : Int
  deriving DecidableEq, Repr

end Sys2Proof

namespace Sys2Proof.Config

/-- Samples in a media frame (spec 00 section 1.1, R28). -/
def frameSamples : Nat := 80
/-- Records a line's event queue holds (R15). -/
def eventQueueSize : Nat := 16
/-- Records one READ_EVENTS takes (R16). -/
def readEventsLimit : Nat := 8
/-- Commands a port's FIFO holds (R181). -/
def fifoSize : Nat := 4
/-- Replies an outbound queue holds (R182, R183). -/
def replyPlaces : Nat := 8
/-- Media frames an outbound queue holds (R183, R184). -/
def mediaPlaces : Nat := 24
/-- Body bytes the assembly keeps (R177). -/
def assemblyKeeps : Nat := 256
/-- Frames a splice queue holds (R70). -/
def spliceQueueSize : Nat := 8
/-- Bare frames that make the agreement PRESUMED (R42). -/
def bareLimit : Nat := 10
/-- The agreement timer, in ms (R43). -/
def agreementMs : Nat := 2000
/-- Off-hook qualification time while a ring cadence runs, in ms (R102). -/
def ringQualifyMs : Nat := 15
/-- Overcurrent that makes a loop fault, in ms (R112). -/
def overcurrentMs : Nat := 50
/-- The fault retry timer, in ms (R112). -/
def retryMs : Nat := 1000
/-- The restore check, in ms (R113). -/
def restoreMs : Nat := 50
/-- The ring converter's start timer, in ms (R150). -/
def startMs : Nat := 50
/-- The keep-warm timer, in ms (R159). -/
def keepWarmMs : Nat := 5000
/-- The zero-time run at which a cadence ends (R144). -/
def zeroRunLimit : Nat := 64
/-- Blocks that qualify or end a DTMF digit (R119, R120). -/
def dtmfBlocks : Nat := 8
/-- Blocks that qualify the calling tone (R122). -/
def cngBlocks : Nat := 100
/-- Blocks that qualify the answer tone (R123). -/
def answerBlocks : Nat := 80
/-- Absent blocks that end a calling or answer tone (R122, R125). -/
def toneEndBlocks : Nat := 10
/-- Blocks within which a second reversal is not reported (R124). -/
def reversalBlocks : Nat := 20
/-- The largest magnitude of a transit difference that enters J16, in samples (R82). -/
def jitterClamp : Nat := 4096
/-- The top of the smoothed depth's range (R86). -/
def depthTop : Int := 81920
/-- The top of the count of frames since the last adjustment (R88). -/
def sinceTop : Nat := 25
/-- The FSK level, in dB below 0 dBm0 (R167). -/
def fskAttenuation : Nat := 13

/-- FREE VALUE (log 7). The number that one sample of a sine wave has, by its frequency in Hz, its attenuation in dB
below 0 dBm0 and its phase in 8000ths of a cycle. The spec gives frequency, level and phase (R147, R167) but not the
codec's reference level nor the rounding, so nothing is assumed of this number. -/
opaque sineSample (frequency attenuation phase : Nat) : Int

/-- FREE VALUE (log 8). The tones that a detector measures in the samples of one block. The spec gives the limits of
frequency and level by which a block is judged (R118, R122, R123) but no way of measuring, and it lets a block over which
a tone begins or ends be judged either way, so nothing is assumed of it; `choice` tells measurements of equal samples
apart. -/
opaque blockTones (choice : Nat) (block : List Sample) : List Tone

/-- FREE VALUE (log 8). The step of a 2100 Hz tone's phase, in degrees, from the block `before` to the start of `block`.
The spec gives the size that makes a reversal (R124) but no way of measuring, so nothing is assumed of it. -/
opaque blockPhaseStep (choice : Nat) (before block : List Sample) : Nat

end Sys2Proof.Config
end

