-- ==== Sys2Proof/Syntax.lean ====
section
/-! DEFINITION. The commands of the block: one constructor of `Instr` for each row of spec/opcode_table.json, with the
operands that the row's rule and the message layouts of spec 10.3 name. -/

namespace Sys2Proof

/-- The two lines (spec 00 section 5.3). -/
inductive Line
  | one
  | two
  deriving DecidableEq, Repr

/-- The two ports (spec 00 section 5.3). -/
inductive Port
  | a
  | b
  deriving DecidableEq, Repr

/-- The commands of the block. A command row carries the sending port, the tag and the line field of its message and
its argument fields as the message holds them (spec 10.3), so every refusal of R185 can be reached. -/
inductive Instr
  /-- POWER_ON_RESET (R22). -/
  | powerOnReset
  /-- CHIP_SELECT_LOW (R176): `kind` is the kind byte, or none when the transaction ends before it is complete. -/
  | chipSelectLow (p : Port) (kind : Option Byte)
  /-- CHIP_SELECT_HIGH (R176, R178): `clocked` are the bytes clocked in since the last whole message. -/
  | chipSelectHigh (p : Port) (clocked : List Byte)
  /-- COMMAND_TAKEN (R177, R181): a COMMAND message's body, 3 bytes or more. -/
  | commandTaken (p : Port) (body : List Byte)
  /-- FOREIGN_MESSAGE (R177): a message that goes neither to the FIFO nor to media intake. -/
  | foreignMessage (p : Port) (type : Byte) (body : List Byte)
  /-- MEDIA_TAKEN (R180): a MEDIA message's body. -/
  | mediaTaken (p : Port) (body : List Byte)
  /-- MESSAGE_SENT (R179): the last byte of the message under way is clocked out in a READ. -/
  | messageSent (p : Port)
  /-- UNKNOWN_COMMAND (R185): a command whose code is not in the command table. -/
  | unknownCommand (p : Port) (code tag line : Byte) (args : List Byte)
  /-- NOP (R186). -/
  | nop (p : Port) (tag line : Byte)
  /-- READ_NOTICES (R188). -/
  | readNotices (p : Port) (tag line : Byte)
  /-- SET_NOTICE_MASK (R189). -/
  | setNoticeMask (p : Port) (tag line : Byte) (mask : Word)
  /-- CLAIM (R4). -/
  | claim (p : Port) (tag line owner : Byte) (generation : Word)
  /-- RELEASE (R6). -/
  | release (p : Port) (tag line : Byte)
  /-- HAND_OVER (R7). -/
  | handOver (p : Port) (tag line : Byte)
  /-- READ_LINE (R2). -/
  | readLine (p : Port) (tag line : Byte)
  /-- READ_EVENTS (R16). -/
  | readEvents (p : Port) (tag line : Byte)
  /-- LINE_RESET (R19). -/
  | lineReset (p : Port) (tag line : Byte)
  /-- DEVICE_RESET (R20, R21). -/
  | deviceReset (p : Port) (tag line : Byte)
  /-- SET_FEED (R98). -/
  | setFeed (p : Port) (tag line mode : Byte)
  /-- SET_HOOK_TIMING (R110). -/
  | setHookTiming (p : Port) (tag line : Byte) (offQualify breakMin pulseMax flashMin flashMax interdigit : Word)
  /-- RING_START (R139). -/
  | ringStart (p : Port) (tag line step : Byte)
  /-- RING_STOP (R145). -/
  | ringStop (p : Port) (tag line : Byte)
  /-- TONE_START (R140). -/
  | toneStart (p : Port) (tag line step : Byte)
  /-- TONE_STOP (R145). -/
  | toneStop (p : Port) (tag line : Byte)
  /-- LOAD_CALLER_ID (R164). -/
  | loadCallerId (p : Port) (tag line parts month day hour minute numberReason nameReason : Byte) (number name : List Byte)
  /-- CHANNEL_OPEN (R24, R25). -/
  | channelOpen (p : Port) (tag line ability present : Byte) (tmin tmax dataTarget : Word) (kVoice kData relay triggers : Byte)
  /-- CHANNEL_CLOSE with the immediate option (R26). -/
  | channelCloseImmediate (p : Port) (tag line : Byte)
  /-- CHANNEL_CLOSE with the drain option (R27). -/
  | channelCloseDrain (p : Port) (tag line : Byte)
  /-- CHANNEL_FLUSH (R68). -/
  | channelFlush (p : Port) (tag line : Byte)
  /-- SET_ABILITY (R47). -/
  | setAbility (p : Port) (tag line ability : Byte)
  /-- SET_CLASS (R46). -/
  | setClass (p : Port) (tag line mediaClass : Byte)
  /-- AGREEMENT_RESTART (R48). -/
  | agreementRestart (p : Port) (tag line : Byte)
  /-- READ_COUNTERS (R77, R78). -/
  | readCounters (p : Port) (tag line clear : Byte)
  /-- TABLE_POINTER (R133). -/
  | tablePointer (p : Port) (tag line index : Byte)
  /-- TABLE_WRITE (R134): the six bytes of the entry. -/
  | tableWrite (p : Port) (tag line e0 e1 e2 e3 e4 e5 : Byte)
  /-- TABLE_READ (R135). -/
  | tableRead (p : Port) (tag line : Byte)
  /-- TABLE_HOLD (R136). -/
  | tableHold (p : Port) (tag line : Byte)
  /-- TABLE_END (R136). -/
  | tableEnd (p : Port) (tag line : Byte)
  /-- UPLINK_BOUNDARY (R28). -/
  | uplinkBoundary (l : Line)
  /-- FRAME_START (R60). -/
  | frameStart (l : Line)
  /-- AGREEMENT_TIMEOUT (R42). -/
  | agreementTimeout (l : Line)
  /-- FILTERED_OFF_HOOK_EDGE (R100, R102, R105). -/
  | filteredOffHookEdge (l : Line)
  /-- FILTERED_ON_HOOK_EDGE (R100, R102, R104). -/
  | filteredOnHookEdge (l : Line)
  /-- OFF_HOOK_QUALIFIED (R102, R103). -/
  | offHookQualified (l : Line)
  /-- HANG_UP (R106). -/
  | hangUp (l : Line)
  /-- INTERDIGIT_EXPIRY (R109). -/
  | interdigitExpiry (l : Line)
  /-- OVERCURRENT_START (R112). -/
  | overcurrentStart (l : Line)
  /-- OVERCURRENT_END (R112). -/
  | overcurrentEnd (l : Line)
  /-- LOOP_FAULT (R112). -/
  | loopFault (l : Line)
  /-- FAULT_RETRY_EXPIRY (R113). -/
  | faultRetryExpiry (l : Line)
  /-- FEED_RESTORED (R113). -/
  | feedRestored (l : Line)
  /-- DETECTOR_BLOCK_BOUNDARY (R116): the line's 40-sample blocks, one on each side, have ended. The samples stand in the
  state; the two numbers tell apart the measurements that a detector may make of the same samples, as R118 lets a block
  over which a pair begins or ends be judged either way (log 8). -/
  | detectorBlockBoundary (l : Line) (lineSide networkSide : Nat)
  /-- STEP_TIMER_EXPIRY (R142). -/
  | stepTimerExpiry (l : Line)
  /-- START_TIMER_EXPIRY (R150). -/
  | startTimerExpiry
  /-- KEEP_WARM_EXPIRY (R159). -/
  | keepWarmExpiry
  /-- CID_DONE (R170). -/
  | cidDone (l : Line)
  /-- HOOK_SAMPLE (R100, R101): one reading of the loop comparator. -/
  | hookSample (l : Line) (offHook : Bool)
  /-- LINE_SAMPLE (R28, R13, R168): one sample of the local reference, with what each codec receives. -/
  | lineSample (rx1 rx2 : Sample)
  deriving DecidableEq, Repr

end Sys2Proof
end

