-- ==== Sys2Proof/Machine/Blocks.lean ====
section
/-! DEFINITION. The plain data of each block of the Olmena 2F (the tables of R1, R23, R51, R76, R79, R96, R116, R132, R138,
R149, R163 and R175) and the value each holds after power-on reset (R22, R131). -/

namespace Sys2Proof.Machine

/-! ### Loop Supervisor (R96) -/

/-- Feed modes (R97). -/
inductive FeedMode
  | normal
  | reversed
  | standby
  | off
  deriving DecidableEq, Repr

/-- Supervision states (R96). -/
inductive Supervision
  | down
  | onHook
  | offHook
  | inBreak
  deriving DecidableEq, Repr

/-- A running off-hook qualification: the counter value at its start and the off_qualify then in force (R102, R111). -/
structure Qualification where
  start      : Word
  offQualify : Nat
  deriving DecidableEq, Repr

/-- The break record: the counter value at the break's start and the parameters taken then (R104). -/
structure BreakRecord where
  start    : Word
  breakMin : Nat
  pulseMax : Nat
  flashMin : Nat
  flashMax : Nat
  deriving DecidableEq, Repr

/-- A running timer: the counter value at its start and the length it took then, in ms (R108, R142). -/
structure Timer where
  start  : Word
  length : Nat
  deriving DecidableEq, Repr

/-- The six hook-timing parameters, in ms (R110). -/
structure HookTiming where
  offQualify : Nat
  breakMin   : Nat
  pulseMax   : Nat
  flashMin   : Nat
  flashMax   : Nat
  interdigit : Nat
  deriving DecidableEq, Repr

/-- The hook-timing defaults (R96, R110). -/
def HookTiming.default : HookTiming :=
  { offQualify := 30, breakMin := 15, pulseMax := 110, flashMin := 250, flashMax := 1100, interdigit := 300 }

/-- The last three comparator readings, true for off-hook (R96, R100). -/
structure HookSamples where
  oldest : Bool
  middle : Bool
  newest : Bool
  deriving DecidableEq, Repr

/-- The Loop Supervisor of a line (R96). `overcurrent` is the model's own input: the loop's current is above the limit,
or would be if the loop were fed (log 10). -/
structure Supervisor where
  feed             : FeedMode
  state            : Supervision
  samples          : HookSamples
  filteredOffHook  : Bool
  qualification    : Option Qualification
  breakRecord      : Option BreakRecord
  pulseCount       : Nat
  interdigitTimer  : Option Timer
  chatter          : Bool
  overcurrentTimer : Option Word
  retryTimer       : Option Word
  restoreCheck     : Option Word
  seriesOpen       : Bool
  timing           : HookTiming
  overcurrent      : Bool
  deriving DecidableEq, Repr

/-! ### Event queue (R13) -/

/-- Event kinds (R13). -/
inductive EventKind
  | offHook
  | onHook
  | flash
  | pulseDigit
  | breakInvalid
  | dtmfDigit
  | toneCng
  | toneAns
  | toneAnsReversal
  | toneEnd
  | cidDone
  | cidAborted
  | loopFault
  | feedRestored
  deriving DecidableEq, Repr

/-- An event record (R13). -/
structure EventRecord where
  kind     : EventKind
  value    : Byte
  time     : Word
  duration : Word
  chatter  : Bool
  overrun  : Bool
  ringTrip : Bool
  deriving DecidableEq, Repr

/-! ### Detectors (R116) -/

/-- The two sides a detector may listen on (R116). -/
inductive Side
  | line
  | network
  deriving DecidableEq, Repr

/-- The DTMF detector's states with the facts each holds (R116, R119 to R121). `age` counts the blocks since the first
present one, `last` is the age of the last present block (log 25). -/
inductive DtmfState
  | idle
  | qualifying (digit : Fin 16) (count : Nat)
  | active (digit : Fin 16) (firstAt : Word) (age last absence : Nat) (next : Option (Fin 16 × Nat))
  deriving DecidableEq, Repr

/-- The CNG detectors' states (R116, R122). -/
inductive CngState
  | idle
  | qualifying (count : Nat)
  | present (absence : Nat)
  deriving DecidableEq, Repr

/-- The answer detectors' states (R116, R123 to R125). `reversal` is the age of the block of the last reported reversal. -/
inductive AnswerState
  | idle
  | qualifying (firstAt : Word) (count : Nat)
  | present (firstAt : Word) (age last absence : Nat) (reversal : Option Nat)
  deriving DecidableEq, Repr

/-- Whether a detector runs, and whether the next block boundary ends a block that began before the detector started
(R116, R117). -/
structure Running where
  on   : Bool
  skip : Bool
  deriving DecidableEq, Repr

/-- The five detectors of a line (R116). -/
structure Detectors where
  dtmfRun    : Running
  dtmf       : DtmfState
  cngLineRun : Running
  cngLine    : CngState
  cngNetRun  : Running
  cngNet     : CngState
  ansLineRun : Running
  ansLine    : AnswerState
  ansNetRun  : Running
  ansNet     : AnswerState
  deriving DecidableEq, Repr

/-- What the detectors of one side hear: the samples of the block under way, the last whole block, and the one before it
(R116). -/
structure Heard where
  now    : List Sample
  block  : List Sample
  before : List Sample
  deriving DecidableEq, Repr

/-! ### Shared table and Cadence Engine (R129, R130, R138) -/

/-- Cadence step actions (R129). -/
inductive StepAction
  | ring
  | quiet
  | tone
  | cid
  | jump
  | stop
  deriving DecidableEq, Repr

/-- A cadence step (R129); the duration is in units of 10 ms. -/
structure CadenceStep where
  action   : StepAction
  tone     : Fin 16
  duration : Nat
  target   : Fin 64
  count    : Nat
  deriving DecidableEq, Repr

/-- A tone pair (R130): two frequencies in Hz, 0 for absent, and the attenuation below 0 dBm0. -/
structure TonePair where
  f1          : Nat
  f2          : Nat
  attenuation : Nat
  deriving DecidableEq, Repr

/-- Cadence kinds (R138). -/
inductive CadenceKind
  | none
  | ring
  | tone
  deriving DecidableEq, Repr

/-- The step in hand with its tone pair for a TONE step of a tone cadence (R138, R141). -/
structure StepInHand where
  step : CadenceStep
  pair : Option TonePair
  deriving DecidableEq, Repr

/-- The loop register when it holds a loop (R143). -/
structure LoopRegister where
  owner     : Fin 64
  remaining : Nat
  deriving DecidableEq, Repr

/-- The Cadence Engine of a line (R138), with the phases of the tone's two frequencies in 8000ths of a cycle (R147). -/
structure CadenceEngine where
  kind    : CadenceKind
  index   : Fin 64
  current : Fin 64
  inHand  : Option StepInHand
  timer   : Option Timer
  loop    : Option LoopRegister
  zeroRun : Nat
  phase1  : Nat
  phase2  : Nat
  deriving DecidableEq, Repr

/-! ### Caller-ID Transmitter (R163) -/

/-- Why a number or a name is absent (R164). -/
inductive AbsentReason
  | unavailable
  | withheld
  deriving DecidableEq, Repr

/-- The number or the name of a record: its characters, or the reason it is absent (R164). -/
inductive CallerPart
  | given (chars : List Byte)
  | absent (reason : AbsentReason)
  deriving DecidableEq, Repr

/-- The date-time of a record (R164). -/
structure DateTime where
  month  : Byte
  day    : Byte
  hour   : Byte
  minute : Byte
  deriving DecidableEq, Repr

/-- A caller-ID record as stored after truncation (R164, R165). -/
structure CallerRecord where
  dateTime : Option DateTime
  number   : Option CallerPart
  name     : Option CallerPart
  deriving DecidableEq, Repr

/-- The loaded record and the message formed from it, present together (R163). -/
structure LoadedCallerId where
  record  : CallerRecord
  message : List Byte
  deriving DecidableEq, Repr

/-- Transmission states (R163). -/
inductive TxState
  | idle
  | seizure
  | mark
  | data
  deriving DecidableEq, Repr

/-- The Caller-ID Transmitter of a line (R163); the phase is in 8000ths of a cycle. -/
structure CallerIdTx where
  loaded      : Option LoadedCallerId
  state       : TxState
  bitPos      : Nat
  accumulator : Nat
  samplesLeft : Nat
  phase       : Nat
  deriving DecidableEq, Repr

/-! ### Media Channel (R23) -/

/-- Media modes (R35). -/
inductive Mode
  | v8
  | v16
  | d8
  | d16
  deriving DecidableEq, Repr

/-- Traffic classes (R35). -/
inductive MediaClass
  | voice
  | data
  deriving DecidableEq, Repr

/-- Payload kinds (R28, R32). -/
inductive PayloadKind
  | log8
  | lin16
  deriving DecidableEq, Repr

/-- A mode word: ability set (bit 0 V8, 1 V16, 2 D8, 3 D16), requested class, current mode and ACK (R30, spec 10.3)
(log 16). -/
structure ModeWord where
  ability    : BitVec 4
  ack        : Bool
  mediaClass : MediaClass
  mode       : Mode
  deriving DecidableEq, Repr

/-- Agreement states (R23). -/
inductive Agreement
  | advertise
  | matched
  | confirmed
  | presumed
  deriving DecidableEq, Repr

/-- Agreement flags (R23). -/
structure AgreementFlags where
  dataRefused : Bool
  noCommon    : Bool
  farSilent   : Bool
  timeout     : Bool
  deriving DecidableEq, Repr

/-- Channel parameters (R24). -/
structure ChannelParams where
  tmin       : Nat
  tmax       : Nat
  dataTarget : Nat
  kVoice     : Nat
  kData      : Nat
  relay      : Bool
  triggerCng : Bool
  triggerAns : Bool
  deriving DecidableEq, Repr

/-- The defaults of R24. -/
def ChannelParams.default : ChannelParams :=
  { tmin := 160, tmax := 1600, dataTarget := 1600, kVoice := 4, kData := 6, relay := true, triggerCng := true,
    triggerAns := true }

/-- One gathered uplink sample, with whether a DTMF detection was active at it (R28, R31). -/
structure Gathered where
  sample : Sample
  digit  : Bool
  deriving DecidableEq, Repr

/-- The Media Channel of a line (R23); its counters are with those of R76. -/
structure MediaChannel where
  params         : ChannelParams
  ability        : BitVec 4
  requestedClass : MediaClass
  mode           : Mode
  agreement      : Agreement
  farWord        : Option ModeWord
  choice         : Option Mode
  flags          : AgreementFlags
  bareCount      : Nat
  agreementTimer : Option Word
  reprime        : Bool
  sampleCounter  : DWord
  nextSequence   : Word
  nextTimestamp  : DWord
  gathered       : List Gathered
  deriving DecidableEq, Repr

/-! ### Playout Buffer and Depth Tracker (R51, R79) -/

/-- Channel states (R51). -/
inductive ChannelState
  | closed
  | priming
  | playing
  | concealing
  | draining
  deriving DecidableEq, Repr

/-- A frame record (R51). -/
structure FrameRecord where
  sequence  : Word
  timestamp : DWord
  kind      : PayloadKind
  payload   : List Byte
  arrival   : DWord
  deriving DecidableEq, Repr

/-- The output period under way: the samples not yet delivered, and whether a trim formed it (R51, R59). -/
structure Period where
  rest    : List Sample
  trimmed : Bool
  deriving DecidableEq, Repr

/-- The slots of a Playout Buffer (R51). -/
abbrev Slots := Vector (Option FrameRecord) 64

/-- The Playout Buffer of a line (R51). -/
structure PlayoutBuffer where
  state         : ChannelState
  slots         : Slots
  playoutPoint  : Option Word
  missing       : Nat
  lastPlayed    : Option (List Sample)
  splicePending : Bool
  spliceQueue   : List FrameRecord
  period        : Period
  deriving DecidableEq, Repr

/-- The Depth Tracker of a line (R79): J16, the last transit, S, T and F. -/
structure DepthTracker where
  jitter      : Int
  lastTransit : Option DWord
  smoothed    : Int
  target      : Nat
  since       : Nat
  deriving DecidableEq, Repr

/-- The fifteen channel counters, in the order of R76's table. -/
structure ChannelCounters where
  stored            : Word
  late              : Word
  duplicate         : Word
  aheadDiscards     : Word
  restarts          : Word
  concealed         : Word
  samplesRemoved    : Word
  samplesInserted   : Word
  spliceDrops       : Word
  stray             : Word
  closedArrivals    : Word
  uplinkSent        : Word
  uplinkUnrouted    : Word
  uplinkDropped     : Word
  agreementRestarts : Word
  deriving DecidableEq, Repr

/-! ### Line, port and part -/

/-- All that is held once per line. `blockDue` is the model's own: a detector block boundary has been reached and not yet
judged (log 5). `codecOut` is the sample last delivered to the line's codec; `lineHeard` are the codec's received samples
and `netHeard` the playout's delivered ones, as the detectors hear them (R34, R59, R116). -/
structure LineState where
  owner      : Option Port
  generation : Word
  events     : List EventRecord
  ms         : Word
  sup        : Supervisor
  det        : Detectors
  cad        : CadenceEngine
  cid        : CallerIdTx
  chan       : MediaChannel
  buf        : PlayoutBuffer
  depth      : DepthTracker
  ctr        : ChannelCounters
  blockDue   : Bool
  codecOut   : Sample
  lineHeard  : Heard
  netHeard   : Heard
  deriving DecidableEq, Repr

/-- Transactions (R175, R176). -/
inductive Transaction
  | none
  | awaitingKind
  | write
  | read
  | ignored
  deriving DecidableEq, Repr

/-- The assembly of a WRITE (R175, R177): header bytes, body bytes kept, and the count of all body bytes received. -/
structure Assembly where
  header : List Byte
  body   : List Byte
  count  : Nat
  deriving DecidableEq, Repr

/-- A taken command: code, tag, line field, the argument bytes kept, and the body length of its message (R177, R181). -/
structure Command where
  code   : Byte
  tag    : Byte
  line   : Byte
  args   : List Byte
  length : Nat
  deriving DecidableEq, Repr

/-- A media frame as messages carry it (R28, spec 10.3). -/
structure MediaFrame where
  line      : Line
  kind      : PayloadKind
  sequence  : Word
  timestamp : DWord
  word      : Option ModeWord
  payload   : List Byte
  deriving DecidableEq, Repr

/-- Result codes (spec 10.3). -/
inductive Result
  | ok
  | held
  | unknown
  | malformed
  | badLine
  | notOwner
  | wrongState
  | range
  deriving DecidableEq, Repr

/-- A reply (spec 10.3, R186). -/
structure Reply where
  tag    : Byte
  code   : Byte
  result : Result
  data   : List Byte
  deriving DecidableEq, Repr

/-- A message of an outbound queue (R183). -/
inductive Message
  | reply (r : Reply)
  | media (f : MediaFrame)
  deriving DecidableEq, Repr

/-- What a READ is sending (R175, R179): nothing, an EMPTY message, the head of the queue, or a message that has left the
queue (log 18). -/
inductive Sending
  | nothing
  | emptyMessage
  | head
  | departed (m : Message)
  deriving DecidableEq, Repr

/-- A Port Link (R175, R132). Bit n of `flags` is the notice of bit n in R187; bit 15 of `mask` is OUTBOUND_READY. -/
structure PortLink where
  transaction    : Transaction
  assembly       : Assembly
  sending        : Sending
  sentBytes      : Nat
  fifo           : List Command
  outbound       : List Message
  flags          : BitVec 15
  mask           : BitVec 16
  pointer        : Fin 80
  hold           : Option (Fin 80)
  malformedMedia : Word
  foreign        : Word
  lostCommands   : Word
  cutMessages    : Word
  deriving DecidableEq, Repr

/-- Converter states, with the driven line (R149). -/
inductive Converter
  | off
  | starting
  | ready
  | driving (l : Line)
  deriving DecidableEq, Repr

/-- The Ring Converter and Arbiter (R149). The timers hold the milliseconds they have run (log 11). `judgedNow` is the
model's own: at the present moment the last ring cadence has ended with the keep-warm judgement (R162; log 35). -/
structure RingArbiter where
  converter  : Converter
  startTimer : Option Nat
  waitList   : List Line
  keepWarm   : Option Nat
  judgedNow  : Bool
  deriving DecidableEq, Repr

/-! ### Power-on values (R22) -/

/-- R96, power-on column. -/
def Supervisor.reset : Supervisor :=
  { feed := .normal, state := .onHook, samples := ⟨false, false, false⟩, filteredOffHook := false,
    qualification := none, breakRecord := none, pulseCount := 0, interdigitTimer := none, chatter := false,
    overcurrentTimer := none, retryTimer := none, restoreCheck := none, seriesOpen := false,
    timing := HookTiming.default, overcurrent := false }

/-- R116: every detector IDLE, none running (R117: the channel is CLOSED and the line ON_HOOK). -/
def Detectors.reset : Detectors :=
  { dtmfRun := ⟨false, false⟩, dtmf := .idle, cngLineRun := ⟨false, false⟩, cngLine := .idle,
    cngNetRun := ⟨false, false⟩, cngNet := .idle, ansLineRun := ⟨false, false⟩, ansLine := .idle,
    ansNetRun := ⟨false, false⟩, ansNet := .idle }

/-- R116: both block grids begin at power-on. -/
def Heard.reset : Heard := { now := [], block := [], before := [] }

/-- R138: no cadence. -/
def CadenceEngine.reset : CadenceEngine :=
  { kind := .none, index := 0, current := 0, inHand := none, timer := none, loop := none, zeroRun := 0, phase1 := 0,
    phase2 := 0 }

/-- R163: IDLE with no record. -/
def CallerIdTx.reset : CallerIdTx :=
  { loaded := none, state := .idle, bitPos := 0, accumulator := 0, samplesLeft := 0, phase := 0 }

/-- No agreement flag (R23). -/
def AgreementFlags.clear : AgreementFlags :=
  { dataRefused := false, noCommon := false, farSilent := false, timeout := false }

/-- R23, power-on column. -/
def MediaChannel.reset : MediaChannel :=
  { params := ChannelParams.default, ability := 0b0001, requestedClass := .voice, mode := .v8, agreement := .advertise,
    farWord := none, choice := none, flags := AgreementFlags.clear, bareCount := 0, agreementTimer := none,
    reprime := false, sampleCounter := 0, nextSequence := 0, nextTimestamp := 0, gathered := [] }

/-- Eighty samples of silence (R59) (log 26). -/
def silence : List Sample := List.replicate 80 0

/-- The period of a CLOSED channel (R59). -/
def Period.silent : Period := { rest := silence, trimmed := false }

/-- No slot holds a frame (R51). -/
def Slots.empty : Slots := Vector.replicate 64 none

/-- R51, power-on column. -/
def PlayoutBuffer.reset : PlayoutBuffer :=
  { state := .closed, slots := Slots.empty, playoutPoint := none, missing := 0, lastPlayed := none,
    splicePending := false, spliceQueue := [], period := Period.silent }

/-- R79, power-on column. -/
def DepthTracker.reset : DepthTracker := { jitter := 0, lastTransit := none, smoothed := 0, target := 0, since := 0 }

/-- R76: all fifteen counters 0. -/
def ChannelCounters.zero : ChannelCounters :=
  { stored := 0, late := 0, duplicate := 0, aheadDiscards := 0, restarts := 0, concealed := 0, samplesRemoved := 0,
    samplesInserted := 0, spliceDrops := 0, stray := 0, closedArrivals := 0, uplinkSent := 0, uplinkUnrouted := 0,
    uplinkDropped := 0, agreementRestarts := 0 }

/-- A line after power-on reset (R22) (log 21). -/
def LineState.reset : LineState :=
  { owner := none, generation := 0, events := [], ms := 0, sup := Supervisor.reset, det := Detectors.reset,
    cad := CadenceEngine.reset, cid := CallerIdTx.reset, chan := MediaChannel.reset, buf := PlayoutBuffer.reset,
    depth := DepthTracker.reset, ctr := ChannelCounters.zero, blockDue := false, codecOut := 0,
    lineHeard := Heard.reset, netHeard := Heard.reset }

/-- An empty assembly (R175). -/
def Assembly.empty : Assembly := { header := [], body := [], count := 0 }

/-- A port after power-on reset (R175): RESET_DONE, bit 14, latched, and every enable set. -/
def PortLink.reset : PortLink :=
  { transaction := .none, assembly := Assembly.empty, sending := .nothing, sentBytes := 0, fifo := [], outbound := [],
    flags := 0b100000000000000, mask := 0xFFFF, pointer := 0, hold := none, malformedMedia := 0, foreign := 0,
    lostCommands := 0, cutMessages := 0 }

/-- A step of R131's table whose other fields are not shown there. -/
def CadenceStep.plain (action : StepAction) : CadenceStep :=
  { action := action, tone := 0, duration := 1, target := 0, count := 0 }

/-- A timed step of R131's table. -/
def CadenceStep.timed (action : StepAction) (duration : Nat) (tone : Fin 16 := 0) : CadenceStep :=
  { action := action, tone := tone, duration := duration, target := 0, count := 0 }

/-- A JUMP of R131's table. -/
def CadenceStep.jumpTo (target : Fin 64) (count : Nat := 0) : CadenceStep :=
  { action := .jump, tone := 0, duration := 1, target := target, count := count }

/-- Steps 0 to 14 of R131: the ring, dial, busy and ringback cadences. -/
def defaultStepsLow : Vector CadenceStep 15 :=
  #v[.timed .ring 200, .timed .quiet 50, .plain .cid, .timed .quiet 350, .timed .ring 200, .timed .quiet 400, .jumpTo 4,
    .timed .tone 2000 0, .jumpTo 7, .timed .tone 50 1, .timed .quiet 50, .jumpTo 9, .timed .tone 100 2,
    .timed .quiet 300, .jumpTo 12]

/-- Steps 15 to 28 of R131: the reorder, distinctive ring, stutter dial and quiet cadences. -/
def defaultStepsHigh : Vector CadenceStep 14 :=
  #v[.timed .tone 25 1, .timed .quiet 25, .jumpTo 15, .timed .ring 80, .timed .quiet 40, .timed .ring 80,
    .timed .quiet 400, .jumpTo 18, .timed .tone 10 0, .timed .quiet 10, .jumpTo 23 9, .timed .tone 2000 0, .jumpTo 26,
    .timed .quiet 50]

/-- The cadence steps loaded at power-on (R131); steps 29 to 63 are STOP. -/
def defaultSteps : Vector CadenceStep 64 :=
  defaultStepsLow ++ defaultStepsHigh ++ Vector.replicate 35 (CadenceStep.plain .stop)

/-- The tone pairs loaded at power-on (R131). -/
def defaultPairs : Vector TonePair 16 :=
  (#v[⟨350, 440, 13⟩, ⟨480, 620, 24⟩, ⟨440, 480, 19⟩] : Vector TonePair 3) ++ Vector.replicate 13 (TonePair.mk 0 0 30)

/-- R149, power-on column. -/
def RingArbiter.reset : RingArbiter :=
  { converter := .off, startTimer := none, waitList := [], keepWarm := none, judgedNow := false }

end Sys2Proof.Machine
end

