-- ==== Sys2Proof/Machine/State.lean ====
section
/-! DEFINITION. The state of the Olmena 2F as plain data: both lines, both ports, the shared table, the ring converter, the
clock and the queue of waiting commands; the reasons a step could stop; and the state after power-on reset (R22). -/

namespace Sys2Proof.Machine

/-- The whole part, and the queue of commands that wait for it. `tick` counts line samples since power-on modulo 40
(R13, R116). -/
structure State where
  line1   : LineState
  line2   : LineState
  portA   : PortLink
  portB   : PortLink
  steps   : Vector CadenceStep 64
  pairs   : Vector TonePair 16
  ring    : RingArbiter
  tick    : Nat
  pending : List Instr
  deriving DecidableEq, Repr

/-- The faults of the part: none. No rule of the spec lets anything stop it, so this type has no constructor (log 23). -/
inductive Fault
  deriving DecidableEq, Repr

/-- The refusals of the model. -/
inductive Refusal
  /-- Raised by `exec` for a row of the opcode table that has no meaning yet. Safe: the machine stops instead of doing
  something the spec does not say. No arm raises it now. -/
  | notModelled (mnemonic : String)
  deriving DecidableEq, Repr

/-- The part right after power-on reset (R22), with no command waiting. -/
def State.reset : State :=
  { line1 := LineState.reset, line2 := LineState.reset, portA := PortLink.reset, portB := PortLink.reset,
    steps := defaultSteps, pairs := defaultPairs, ring := RingArbiter.reset, tick := 0, pending := [] }

end Sys2Proof.Machine
end

