-- ==== Sys2Proof/Machine/Operands.lean ====
section
/-! DEFINITION. The operand forms of the commands: byte order (spec 10.3), clamping (spec 00 section 5.2), the codes of
every enumeration (spec 10.3), the command codes with their body lengths, and the argument fields of a taken command. -/

namespace Sys2Proof.Machine

/-! ### Byte order: most significant byte first (spec 10.3) -/

/-- The high byte of a word. -/
def hiByte (w : Word) : Byte := w.extractLsb' 8 8

/-- The low byte of a word. -/
def loByte (w : Word) : Byte := w.extractLsb' 0 8

/-- The word of two bytes, most significant first. -/
def wordOf (hi lo : Byte) : Word := hi ++ lo

/-- A word as message bytes. -/
def wordBytes (w : Word) : List Byte := [hiByte w, loByte w]

/-- A 32-bit quantity as message bytes. -/
def dwordBytes (d : DWord) : List Byte :=
  [d.extractLsb' 24 8, d.extractLsb' 16 8, d.extractLsb' 8 8, d.extractLsb' 0 8]

/-- The 32-bit quantity of four bytes, most significant first. -/
def dwordOf (b3 b2 b1 b0 : Byte) : DWord := b3 ++ b2 ++ b1 ++ b0

/-- A number in one byte. -/
def byteOf (n : Nat) : Byte := BitVec.ofNat 8 n

/-- A number in two bytes. -/
def natBytes (n : Nat) : List Byte := wordBytes (BitVec.ofNat 16 n)

/-- A truth value in one byte. -/
def boolByte (b : Bool) : Byte := if b then 1 else 0

/-- Clamp to a range: below it its lower end, above it its upper end (spec 00 section 5.2). -/
def clamp (low high n : Nat) : Nat := max low (min high n)

/-- The low `n` of the possible values, clamped (R134). -/
def clampFin (n : Nat) (b : Byte) : Fin (n + 1) := ⟨min n b.toNat, by omega⟩

/-! ### Lines, owners and results -/

/-- The line field's value (spec 00 section 5.3). -/
def lineByte : Line → Byte
  | .one => 1
  | .two => 2

/-- The line that a line field names, when it names one. -/
def lineOf (b : Byte) : Option Line :=
  if b = 1 then some .one else if b = 2 then some .two else none

/-- The other port (spec 00 section 4). -/
def otherPort : Port → Port
  | .a => .b
  | .b => .a

/-- The other line. -/
def otherLine : Line → Line
  | .one => .two
  | .two => .one

/-- Owner values: 0 NONE, 1 A, 2 B (spec 10.3). -/
def ownerByte : Option Port → Byte
  | none => 0
  | some .a => 1
  | some .b => 2

/-- The owner that a byte names; none for a byte outside NONE, A and B (R4). -/
def ownerOf (b : Byte) : Option (Option Port) :=
  if b = 0 then some none else if b = 1 then some (some .a) else if b = 2 then some (some .b) else none

/-- Result codes (spec 10.3). -/
def resultByte : Result → Byte
  | .ok => 0
  | .held => 1
  | .unknown => 2
  | .malformed => 3
  | .badLine => 4
  | .notOwner => 5
  | .wrongState => 6
  | .range => 7

/-! ### Enumerations of the line record and of arguments (spec 10.3) -/

/-- Supervision states. -/
def supervisionByte : Supervision → Byte
  | .down => 0
  | .onHook => 1
  | .offHook => 2
  | .inBreak => 3

/-- Feed modes. -/
def feedByte : FeedMode → Byte
  | .normal => 0
  | .reversed => 1
  | .standby => 2
  | .off => 3

/-- The feed mode that a byte names (R98). -/
def feedOf (b : Byte) : Option FeedMode :=
  if b = 0 then some .normal else if b = 1 then some .reversed else if b = 2 then some .standby
  else if b = 3 then some .off else none

/-- Channel states. -/
def channelByte : ChannelState → Byte
  | .closed => 0
  | .priming => 1
  | .playing => 2
  | .concealing => 3
  | .draining => 4

/-- Agreement states. -/
def agreementByte : Agreement → Byte
  | .advertise => 0
  | .matched => 1
  | .confirmed => 2
  | .presumed => 3

/-- Classes. -/
def classByte : MediaClass → Byte
  | .voice => 0
  | .data => 1

/-- The class that a byte names (R46). -/
def classOf (b : Byte) : Option MediaClass :=
  if b = 0 then some .voice else if b = 1 then some .data else none

/-- Modes. -/
def modeByte : Mode → Byte
  | .v8 => 0
  | .v16 => 1
  | .d8 => 2
  | .d16 => 3

/-- The mode of a number. -/
def modeOf (n : Nat) : Option Mode :=
  match n with
  | 0 => some .v8
  | 1 => some .v16
  | 2 => some .d8
  | 3 => some .d16
  | _ => none

/-- Event kinds. -/
def eventKindByte : EventKind → Byte
  | .offHook => 1
  | .onHook => 2
  | .flash => 3
  | .pulseDigit => 4
  | .breakInvalid => 5
  | .dtmfDigit => 6
  | .toneCng => 7
  | .toneAns => 8
  | .toneAnsReversal => 9
  | .toneEnd => 10
  | .cidDone => 11
  | .cidAborted => 12
  | .loopFault => 13
  | .feedRestored => 14

/-- Tone sides (R13, spec 10.3). -/
def sideByte : Side → Byte
  | .line => 0
  | .network => 1

/-- Step actions. -/
def actionByte : StepAction → Byte
  | .ring => 0
  | .quiet => 1
  | .tone => 2
  | .cid => 3
  | .jump => 4
  | .stop => 5

/-- The action that a byte names (R134). -/
def actionOf (b : Byte) : Option StepAction :=
  if b = 0 then some .ring else if b = 1 then some .quiet else if b = 2 then some .tone
  else if b = 3 then some .cid else if b = 4 then some .jump else if b = 5 then some .stop else none

/-- The absent reason that a byte names: 1 UNAVAILABLE, 2 PRIVATE (spec 10.3). -/
def reasonOf (b : Byte) : Option AbsentReason :=
  if b = 1 then some .unavailable else if b = 2 then some .withheld else none

/-! ### Modes, classes and ability sets (R35) -/

/-- The class of a mode (R35). -/
def Mode.mediaClass : Mode → MediaClass
  | .v8 => .voice
  | .v16 => .voice
  | .d8 => .data
  | .d16 => .data

/-- The payload kind of a mode (R35). -/
def Mode.payload : Mode → PayloadKind
  | .v8 => .log8
  | .v16 => .lin16
  | .d8 => .log8
  | .d16 => .lin16

/-- The bit of a mode in an ability set (spec 10.3). -/
def Mode.bit : Mode → Nat
  | .v8 => 0
  | .v16 => 1
  | .d8 => 2
  | .d16 => 3

/-- Whether an ability set holds a mode. -/
def hasMode (set : BitVec 4) (m : Mode) : Bool := set.getLsbD m.bit

/-- The ability set of a byte's low four bits. -/
def abilityOf (b : Byte) : BitVec 4 := b.extractLsb' 0 4

/-- Whether an ability byte is a set the command accepts: not empty, bits 7..4 clear (R24, R185). -/
def abilityInRange (b : Byte) : Bool := b.extractLsb' 4 4 == 0 && abilityOf b != 0

/-- An ability set as a byte. -/
def abilityByte (set : BitVec 4) : Byte := set.zeroExtend 8

/-! ### Command codes (spec 10.3) -/

/-- The commands of the command table. -/
inductive CommandCode
  | nop
  | readNotices
  | setNoticeMask
  | claim
  | release
  | handOver
  | readLine
  | readEvents
  | lineReset
  | deviceReset
  | setFeed
  | setHookTiming
  | ringStart
  | ringStop
  | toneStart
  | toneStop
  | loadCallerId
  | channelOpen
  | channelClose
  | channelFlush
  | setAbility
  | setClass
  | agreementRestart
  | readCounters
  | tablePointer
  | tableWrite
  | tableRead
  | tableHold
  | tableEnd
  deriving DecidableEq, Repr

/-- The code byte of a command. -/
def codeByte : CommandCode → Byte
  | .nop => 0x01
  | .readNotices => 0x02
  | .setNoticeMask => 0x03
  | .claim => 0x10
  | .release => 0x11
  | .handOver => 0x12
  | .readLine => 0x13
  | .readEvents => 0x14
  | .lineReset => 0x15
  | .deviceReset => 0x16
  | .setFeed => 0x20
  | .setHookTiming => 0x21
  | .ringStart => 0x30
  | .ringStop => 0x31
  | .toneStart => 0x32
  | .toneStop => 0x33
  | .loadCallerId => 0x34
  | .channelOpen => 0x40
  | .channelClose => 0x41
  | .channelFlush => 0x42
  | .setAbility => 0x43
  | .setClass => 0x44
  | .agreementRestart => 0x45
  | .readCounters => 0x46
  | .tablePointer => 0x50
  | .tableWrite => 0x51
  | .tableRead => 0x52
  | .tableHold => 0x53
  | .tableEnd => 0x54

/-- Every command of the table. -/
def allCommands : List CommandCode :=
  [.nop, .readNotices, .setNoticeMask, .claim, .release, .handOver, .readLine, .readEvents, .lineReset, .deviceReset,
    .setFeed, .setHookTiming, .ringStart, .ringStop, .toneStart, .toneStop, .loadCallerId, .channelOpen, .channelClose,
    .channelFlush, .setAbility, .setClass, .agreementRestart, .readCounters, .tablePointer, .tableWrite, .tableRead,
    .tableHold, .tableEnd]

/-- The command that a code byte names; none for a code that is not one of the command table's (R185 check 1). -/
def commandOf (b : Byte) : Option CommandCode := allCommands.find? fun c => codeByte c == b

/-- The argument bytes of a command, by its table row; LOAD_CALLER_ID's depend on its body (R185 check 2). -/
def argLength : CommandCode → Nat
  | .setNoticeMask => 2
  | .claim => 3
  | .setFeed => 1
  | .setHookTiming => 12
  | .ringStart => 1
  | .toneStart => 1
  | .channelOpen => 12
  | .channelClose => 1
  | .setAbility => 1
  | .setClass => 1
  | .readCounters => 1
  | .tablePointer => 1
  | .tableWrite => 6
  | _ => 0

/-! ### Argument fields of a taken command -/

/-- Argument byte `i`, counted from the byte after the line field. -/
def Command.byteAt (c : Command) (i : Nat) : Byte := c.args.getD i 0

/-- The two-byte argument field that starts at `i`. -/
def Command.wordAt (c : Command) (i : Nat) : Word := wordOf (c.byteAt i) (c.byteAt (i + 1))

/-- The command whose message has these code, tag, line field and argument bytes. The assembly keeps the first 256 body
bytes, three of which are code, tag and line (R177). -/
def Command.of (code tag line : Byte) (args : List Byte) : Command :=
  { code := code, tag := tag, line := line, args := args.take (Config.assemblyKeeps - 3), length := args.length + 3 }

/-- The command of a taken COMMAND body of 3 bytes or more (R177, R181). -/
def Command.ofBody : List Byte → Option Command
  | code :: tag :: line :: args => some (Command.of code tag line args)
  | _ => none

/-- The caller-ID record's fields as LOAD_CALLER_ID carries them (spec 10.3). -/
structure CallerFields where
  parts        : Byte
  month        : Byte
  day          : Byte
  hour         : Byte
  minute       : Byte
  numberReason : Byte
  nameReason   : Byte
  number       : List Byte
  name         : List Byte
  deriving DecidableEq, Repr

/-- The argument bytes of a caller-ID record (spec 10.3). -/
def CallerFields.bytes (f : CallerFields) : List Byte :=
  [f.parts, f.month, f.day, f.hour, f.minute, f.numberReason, f.nameReason, byteOf f.number.length] ++ f.number
    ++ [byteOf f.name.length] ++ f.name

/-- The caller-ID record in argument bytes; none where their length is not 9 + n + m with m at most 32 (R185 check 2). -/
def callerFieldsOf : List Byte → Option CallerFields
  | parts :: month :: day :: hour :: minute :: numberReason :: nameReason :: n :: rest =>
    match rest.drop n.toNat with
    | m :: name =>
      if m.toNat ≤ 32 ∧ name.length = m.toNat then
        some { parts := parts, month := month, day := day, hour := hour, minute := minute,
               numberReason := numberReason, nameReason := nameReason, number := rest.take n.toNat, name := name }
      else none
    | [] => none
  | _ => none

/-- Whether a record gives both a number and a number-absent reason, or both a name and a name-absent reason (R164). -/
def CallerFields.conflicting (f : CallerFields) : Bool :=
  (f.parts.getLsbD 1 && !f.number.isEmpty) || (f.parts.getLsbD 2 && !f.name.isEmpty)

end Sys2Proof.Machine
end

