-- ==== Sys2Proof/Decode.lean ====
section
/-! DEFINITION. The words of the table: spec/opcode_table.json gives no row any bits, so no word spells a command (log 1). What
the spec does lay out is the body of the COMMAND message that carries a command row (spec 10.3). -/

namespace Sys2Proof

/-- The command that a word of the table's bits spells: none, since no row of the table has bits (log 1). -/
def decodeTableWord (_nbits _w : Nat) : Option Instr := none

/-- A COMMAND body: code, tag, line field, arguments (spec 10.3). -/
def commandBody (p : Port) (code tag line : Byte) (args : List Byte) : Option (Port × List Byte) :=
  some (p, code :: tag :: line :: args)

/-- The port and the body of the COMMAND message that carries a command row; none for a row that is no command of a master
(spec 10.3, R177). -/
def commandMessage : Instr → Option (Port × List Byte)
  | .powerOnReset => none
  | .chipSelectLow _ _ => none
  | .chipSelectHigh _ _ => none
  | .commandTaken _ _ => none
  | .foreignMessage _ _ _ => none
  | .mediaTaken _ _ => none
  | .messageSent _ => none
  | .unknownCommand p code tag line args => commandBody p code tag line args
  | .nop p tag line => commandBody p (Machine.codeByte .nop) tag line []
  | .readNotices p tag line => commandBody p (Machine.codeByte .readNotices) tag line []
  | .setNoticeMask p tag line mask =>
    commandBody p (Machine.codeByte .setNoticeMask) tag line (Machine.wordBytes mask)
  | .claim p tag line owner generation =>
    commandBody p (Machine.codeByte .claim) tag line ([owner] ++ Machine.wordBytes generation)
  | .release p tag line => commandBody p (Machine.codeByte .release) tag line []
  | .handOver p tag line => commandBody p (Machine.codeByte .handOver) tag line []
  | .readLine p tag line => commandBody p (Machine.codeByte .readLine) tag line []
  | .readEvents p tag line => commandBody p (Machine.codeByte .readEvents) tag line []
  | .lineReset p tag line => commandBody p (Machine.codeByte .lineReset) tag line []
  | .deviceReset p tag line => commandBody p (Machine.codeByte .deviceReset) tag line []
  | .setFeed p tag line mode => commandBody p (Machine.codeByte .setFeed) tag line [mode]
  | .setHookTiming p tag line offQualify breakMin pulseMax flashMin flashMax interdigit =>
    commandBody p (Machine.codeByte .setHookTiming) tag line
      (Machine.wordBytes offQualify ++ Machine.wordBytes breakMin ++ Machine.wordBytes pulseMax
        ++ Machine.wordBytes flashMin ++ Machine.wordBytes flashMax ++ Machine.wordBytes interdigit)
  | .ringStart p tag line step => commandBody p (Machine.codeByte .ringStart) tag line [step]
  | .ringStop p tag line => commandBody p (Machine.codeByte .ringStop) tag line []
  | .toneStart p tag line step => commandBody p (Machine.codeByte .toneStart) tag line [step]
  | .toneStop p tag line => commandBody p (Machine.codeByte .toneStop) tag line []
  | .loadCallerId p tag line parts month day hour minute numberReason nameReason number name =>
    commandBody p (Machine.codeByte .loadCallerId) tag line
      (Machine.CallerFields.mk parts month day hour minute numberReason nameReason number name).bytes
  | .channelOpen p tag line ability present tmin tmax dataTarget kVoice kData relay triggers =>
    commandBody p (Machine.codeByte .channelOpen) tag line
      ([ability, present] ++ Machine.wordBytes tmin ++ Machine.wordBytes tmax ++ Machine.wordBytes dataTarget
        ++ [kVoice, kData, relay, triggers])
  | .channelCloseImmediate p tag line => commandBody p (Machine.codeByte .channelClose) tag line [0]
  | .channelCloseDrain p tag line => commandBody p (Machine.codeByte .channelClose) tag line [1]
  | .channelFlush p tag line => commandBody p (Machine.codeByte .channelFlush) tag line []
  | .setAbility p tag line ability => commandBody p (Machine.codeByte .setAbility) tag line [ability]
  | .setClass p tag line mediaClass => commandBody p (Machine.codeByte .setClass) tag line [mediaClass]
  | .agreementRestart p tag line => commandBody p (Machine.codeByte .agreementRestart) tag line []
  | .readCounters p tag line clear => commandBody p (Machine.codeByte .readCounters) tag line [clear]
  | .tablePointer p tag line index => commandBody p (Machine.codeByte .tablePointer) tag line [index]
  | .tableWrite p tag line e0 e1 e2 e3 e4 e5 =>
    commandBody p (Machine.codeByte .tableWrite) tag line [e0, e1, e2, e3, e4, e5]
  | .tableRead p tag line => commandBody p (Machine.codeByte .tableRead) tag line []
  | .tableHold p tag line => commandBody p (Machine.codeByte .tableHold) tag line []
  | .tableEnd p tag line => commandBody p (Machine.codeByte .tableEnd) tag line []
  | .uplinkBoundary _ => none
  | .frameStart _ => none
  | .agreementTimeout _ => none
  | .filteredOffHookEdge _ => none
  | .filteredOnHookEdge _ => none
  | .offHookQualified _ => none
  | .hangUp _ => none
  | .interdigitExpiry _ => none
  | .overcurrentStart _ => none
  | .overcurrentEnd _ => none
  | .loopFault _ => none
  | .faultRetryExpiry _ => none
  | .feedRestored _ => none
  | .detectorBlockBoundary _ _ _ => none
  | .stepTimerExpiry _ => none
  | .startTimerExpiry => none
  | .keepWarmExpiry => none
  | .cidDone _ => none
  | .hookSample _ _ => none
  | .lineSample _ _ => none

end Sys2Proof
end

