-- ==== Sys2Proof/Machine/Flags.lean ====
section
/-! DEFINITION. The flag computations: saturating counters (spec 00 section 5.2), the 15 notice flags of a port (R187), the
attention line (R190), and the flags byte of an event record and of an agreement. -/

namespace Sys2Proof.Machine

/-- A 16-bit counter increased by `n`: an increase at 65535 leaves it at 65535 (spec 00 section 5.2). -/
def satAdd (c : Word) (n : Nat) : Word := BitVec.ofNat 16 (min 65535 (c.toNat + n))

/-- The notices of a port (R187). -/
inductive Notice
  | events (l : Line)
  | unownedActivity (l : Line)
  | ownershipLost (l : Line)
  | ownershipGiven (l : Line)
  | agreementChanged (l : Line)
  | playoutAlert (l : Line)
  | commandOverrun
  | framing
  | resetDone
  deriving DecidableEq, Repr

/-- The bit of a notice (R187). -/
def Notice.bit : Notice → Nat
  | .events .one => 0
  | .events .two => 1
  | .unownedActivity .one => 2
  | .unownedActivity .two => 3
  | .ownershipLost .one => 4
  | .ownershipLost .two => 5
  | .ownershipGiven .one => 6
  | .ownershipGiven .two => 7
  | .agreementChanged .one => 8
  | .agreementChanged .two => 9
  | .playoutAlert .one => 10
  | .playoutAlert .two => 11
  | .commandOverrun => 12
  | .framing => 13
  | .resetDone => 14

/-- The flags with one notice latched (R187). -/
def Notice.mask (n : Notice) : BitVec 15 := BitVec.twoPow 15 n.bit

/-- Whether a notice is latched in a port's flags. -/
def isLatched (flags : BitVec 15) (n : Notice) : Bool := flags.getLsbD n.bit

/-- Whether a port's attention line is driven low: an enabled flag is latched, or OUTBOUND_READY is enabled and the
outbound queue holds a message (R190). -/
def attentionLow (q : PortLink) : Bool :=
  (q.flags &&& q.mask.extractLsb' 0 15 != 0) || (q.mask.getLsbD 15 && !q.outbound.isEmpty)

/-- The flags byte of an event record: bit 0 CHATTER, bit 1 OVERRUN, bit 2 RING_TRIP (spec 10.3). -/
def eventFlagsByte (e : EventRecord) : Byte :=
  boolByte e.chatter ||| (boolByte e.overrun <<< 1) ||| (boolByte e.ringTrip <<< 2)

/-- The agreement flags byte: bit 0 DATA_REFUSED, bit 1 NO_COMMON, bit 2 FAR_SILENT, bit 3 TIMEOUT (spec 10.3). -/
def agreementFlagsByte (f : AgreementFlags) : Byte :=
  boolByte f.dataRefused ||| (boolByte f.noCommon <<< 1) ||| (boolByte f.farSilent <<< 2) ||| (boolByte f.timeout <<< 3)

end Sys2Proof.Machine
end

