-- ==== Sys2Proof/Machine/Ops.lean ====
section
/-! DEFINITION. The named operations that every family shares: reading and writing one line or one port, time on a line's
millisecond counter, latching notices (R187), storing events (R14, R15), the outbound queue (R182 to R184), line
addressing (R17, R18) and the judgement and reply of a command (R182, R185, R186). The part has no exception entry: an
error is a notice, an event or a result code. -/

namespace Sys2Proof.Machine

/-- What a row's meaning answers. -/
abbrev Outcome := Host.Outcome State Fault Refusal

/-! ### Lines and ports -/

/-- The state of one line. -/
def State.line (s : State) : Line → LineState
  | .one => s.line1
  | .two => s.line2

/-- Change the state of one line. -/
def State.modLine (s : State) (l : Line) (f : LineState → LineState) : State :=
  match l with
  | .one => { s with line1 := f s.line1 }
  | .two => { s with line2 := f s.line2 }

/-- The Port Link of one port. -/
def State.port (s : State) : Port → PortLink
  | .a => s.portA
  | .b => s.portB

/-- Change one Port Link. -/
def State.modPort (s : State) (p : Port) (f : PortLink → PortLink) : State :=
  match p with
  | .a => { s with portA := f s.portA }
  | .b => { s with portB := f s.portB }

/-! Changing one block of a line. -/

/-- Change a line's Loop Supervisor. -/
def State.modSup (s : State) (l : Line) (f : Supervisor → Supervisor) : State :=
  s.modLine l fun x => { x with sup := f x.sup }

/-- Change a line's Cadence Engine. -/
def State.modCad (s : State) (l : Line) (f : CadenceEngine → CadenceEngine) : State :=
  s.modLine l fun x => { x with cad := f x.cad }

/-- Change a line's Caller-ID Transmitter. -/
def State.modCid (s : State) (l : Line) (f : CallerIdTx → CallerIdTx) : State :=
  s.modLine l fun x => { x with cid := f x.cid }

/-- Change a line's Media Channel. -/
def State.modChan (s : State) (l : Line) (f : MediaChannel → MediaChannel) : State :=
  s.modLine l fun x => { x with chan := f x.chan }

/-- Change a line's Playout Buffer. -/
def State.modBuf (s : State) (l : Line) (f : PlayoutBuffer → PlayoutBuffer) : State :=
  s.modLine l fun x => { x with buf := f x.buf }

/-- Change a line's Detectors. -/
def State.modDet (s : State) (l : Line) (f : Detectors → Detectors) : State :=
  s.modLine l fun x => { x with det := f x.det }

/-- Change a line's channel counters. -/
def State.modCtr (s : State) (l : Line) (f : ChannelCounters → ChannelCounters) : State :=
  s.modLine l fun x => { x with ctr := f x.ctr }

/-- Change the Ring Converter and Arbiter. -/
def State.modRing (s : State) (f : RingArbiter → RingArbiter) : State := { s with ring := f s.ring }

/-! ### Channel states and time -/

/-- A channel is open in PRIMING, PLAYING and CONCEALING (R23). -/
def ChannelState.isOpen : ChannelState → Bool
  | .priming => true
  | .playing => true
  | .concealing => true
  | _ => false

/-- Milliseconds from a captured counter value to the present one, modulo 65536 (R100). -/
def elapsed (now start : Word) : Nat := (now - start).toNat

/-- Whether a timer started at `start` has run `length` ms; a stopped timer has not (R100, R142). -/
def hasRun (now : Word) (start : Option Word) (length : Nat) : Bool :=
  match start with
  | some t => length ≤ elapsed now t
  | none => false

/-- Whether a timer with its own length has expired. -/
def Timer.expired (now : Word) : Option Timer → Bool
  | some t => t.length ≤ elapsed now t.start
  | none => false

/-! ### Notices (R187) -/

/-- Latch a notice at a port. -/
def latch (p : Port) (n : Notice) (s : State) : State :=
  s.modPort p fun q => { q with flags := q.flags ||| n.mask }

/-- Latch a notice at the line's owner, and nowhere when the line is unowned (R44, R65). -/
def latchOwner (l : Line) (n : Notice) (s : State) : State :=
  match (s.line l).owner with
  | some p => latch p n s
  | none => s

/-! ### Events (R14, R15) -/

/-- Set OVERRUN on the newest record of a queue (R15). -/
def markOverrun : List EventRecord → List EventRecord
  | [] => []
  | [e] => [{ e with overrun := true }]
  | e :: f :: es => e :: markOverrun (f :: es)

/-- The queue after an event is detected: appended while fewer than 16 are held, else lost with OVERRUN set (R14, R15). -/
def appendEvent (q : List EventRecord) (e : EventRecord) : List EventRecord :=
  if q.length < Config.eventQueueSize then q ++ [e] else markOverrun q

/-- The notice of a stored or lost event: EVENTS at the owner, or UNOWNED_ACTIVITY at both ports (R14, R15). -/
def noticeEvent (l : Line) (s : State) : State :=
  match (s.line l).owner with
  | some p => latch p (.events l) s
  | none => latch .b (.unownedActivity l) (latch .a (.unownedActivity l) s)

/-- Store an event of a line, or lose it to a full queue, and latch its notice (R14, R15). -/
def storeEvent (l : Line) (e : EventRecord) (s : State) : State :=
  noticeEvent l (s.modLine l fun x => { x with events := appendEvent x.events e })

/-- A length in ms as a record's duration, saturating at 65535 (R13). -/
def durationOf (n : Nat) : Word := BitVec.ofNat 16 (min 65535 n)

/-- Store an event that carries no flag, stamped with the line's millisecond counter (R13). -/
def storePlain (l : Line) (kind : EventKind) (value : Byte) (duration : Nat) (s : State) : State :=
  storeEvent l { kind := kind, value := value, time := (s.line l).ms, duration := durationOf duration, chatter := false,
                 overrun := false, ringTrip := false } s

/-! ### Outbound queue (R182 to R184) -/

/-- Whether a message is a reply. -/
def Message.isReply : Message → Bool
  | .reply _ => true
  | .media _ => false

/-- Whether a message is a media frame. -/
def Message.isMedia : Message → Bool
  | .reply _ => false
  | .media _ => true

/-- Whether a message is a media frame of a line. -/
def Message.isMediaOf (l : Line) : Message → Bool
  | .reply _ => false
  | .media f => f.line = l

/-- Replies queued at a port (R182). -/
def replyCount (q : PortLink) : Nat := q.outbound.countP Message.isReply

/-- Media frames queued at a port (R184). -/
def mediaCount (q : PortLink) : Nat := q.outbound.countP Message.isMedia

/-- Append a message at the tail of a port's outbound queue (R183). -/
def enqueueMessage (p : Port) (m : Message) (s : State) : State :=
  s.modPort p fun q => { q with outbound := q.outbound ++ [m] }

/-! ### Commands: judgement, execution and reply (R181, R182, R185, R186) -/

/-- What the execution of a command gives: the state it leaves, the result and the reply's data. -/
structure Answer where
  state  : State
  result : Result
  data   : List Byte

/-- An accepted command's answer. -/
def accept (s : State) (data : List Byte := []) : Answer := { state := s, result := .ok, data := data }

/-- A refusal: the state is left as it was (spec 00 section 5.5). -/
def refuse (r : Result) (s : State) : Answer := { state := s, result := r, data := [] }

/-- Queue the reply of an executed command (R186). -/
def answerReply (p : Port) (c : Command) (a : Answer) : State :=
  enqueueMessage p (.reply { tag := c.tag, code := c.code, result := a.result, data := a.data }) a.state

/-- A command waits, or is lost to overrun (R181). -/
def enqueueCommand (p : Port) (c : Command) (s : State) : State :=
  if (s.port p).fifo.length < Config.fifoSize then
    s.modPort p fun q => { q with fifo := q.fifo ++ [c] }
  else
    latch p .commandOverrun (s.modPort p fun q => { q with lostCommands := satAdd q.lostCommands 1 })

/-- Whether a command taken now executes at once: no command waits before it and a reply place is free (R182). -/
def executesAtOnce (s : State) (p : Port) : Bool :=
  (s.port p).fifo.isEmpty && decide (replyCount (s.port p) < Config.replyPlaces)

/-- A command taken at a port: it executes at once where R182 lets it, `act` being its execution, and waits or is lost
otherwise (R181; log 3). -/
def issue (p : Port) (c : Command) (act : State → Answer) (s : State) : State :=
  if executesAtOnce s p then answerReply p c (act s) else enqueueCommand p c s

/-- Whether a port owns a line. -/
def owns (s : State) (p : Port) (l : Line) : Bool := (s.line l).owner = some p

/-- One entry of an ALL reply: the line, its result, the length of its data, and the data (R186). -/
def allEntry (l : Line) (a : Answer) : List Byte :=
  [lineByte l, resultByte a.result, byteOf a.data.length] ++ a.data

/-- A command that needs ownership, by its line field (R17, R185 checks 3 to 6): `act` makes the remaining checks and does
the work for one line. -/
def ownerCommand (p : Port) (field : Byte) (act : Line → State → Answer) (s : State) : Answer :=
  match lineOf field with
  | some l => if owns s p l then act l s else refuse .notOwner s
  | none =>
    if field = 3 then
      match owns s p .one, owns s p .two with
      | false, false => refuse .notOwner s
      | true, false => let a := act .one s; accept a.state (allEntry .one a)
      | false, true => let a := act .two s; accept a.state (allEntry .two a)
      | true, true =>
        let a := act .one s
        let b := act .two a.state
        accept b.state (allEntry .one a ++ allEntry .two b)
    else refuse .badLine s

/-- READ_LINE and READ_COUNTERS by their line field: line 1, line 2 or ALL, Line 1 first (R18, R186). -/
def reportCommand (field : Byte) (report : Line → State → List Byte) (after : Line → State → State) (s : State) : Answer :=
  match lineOf field with
  | some l => accept (after l s) (report l s)
  | none =>
    if field = 3 then accept (after .two (after .one s)) (report .one s ++ report .two s) else refuse .badLine s

end Sys2Proof.Machine
end

