-- ==== Sys2Proof/Machine/Ringing.lean ====
section
/-! DEFINITION. The Ring Converter and Arbiter (spec 08): requests (R150), the wait list (R151), grants (R152), ends of
bursts and withdrawals (R154 to R157), keep-warm (R159, R162), the supply on each loop (R97, R153), and the events
START_TIMER_EXPIRY and KEEP_WARM_EXPIRY. -/

namespace Sys2Proof.Machine

/-- Where a line stands in ringing (R1, R138, R149). -/
inductive RingStatus
  | none
  | waiting
  | burst
  | pause
  deriving DecidableEq, Repr

/-- Whether a ring cadence runs on a line (R103, R138). -/
def ringCadence (x : LineState) : Bool := x.cad.kind = .ring

/-- The ring status of the line record (R138, R149). -/
def ringStatus (s : State) (l : Line) : RingStatus :=
  if s.ring.converter = .driving l then .burst
  else if s.ring.waitList.contains l then .waiting
  else if ringCadence (s.line l) then .pause
  else .none

/-- What a loop carries: nothing, a feed mode, or ringing voltage (R97, R153). -/
inductive LoopSupply
  | unfed
  | fed (mode : FeedMode)
  | ringing
  deriving DecidableEq, Repr

/-- The supply on a line's loop (R97, R112, R153). -/
def loopSupply (s : State) (l : Line) : LoopSupply :=
  if s.ring.converter = .driving l then .ringing
  else if (s.line l).sup.state = .down then .unfed
  else .fed (s.line l).sup.feed

/-- The step timer of the step in hand, started now (R142). -/
def startedTimer (x : LineState) : Option Timer :=
  x.cad.inHand.map fun h => { start := x.ms, length := 10 * h.step.duration }

/-- The head of the wait list is granted when the converter is READY (R152). -/
def grantHead (s : State) : State :=
  match s.ring.converter, s.ring.waitList with
  | .ready, l :: rest =>
    (s.modRing fun a => { a with converter := .driving l, waitList := rest, keepWarm := none }).modLine l fun x =>
      { x with cad := { x.cad with timer := startedTimer x } }
  | _, _ => s

/-- A ring request is handed to the arbiter (R150). -/
def ringRequest (l : Line) (s : State) : State :=
  let t := s.modRing fun a => { a with waitList := a.waitList ++ [l] }
  match s.ring.converter with
  | .off => t.modRing fun a => { a with converter := .starting, startTimer := some 0 }
  | .starting => t
  | .ready => grantHead (t.modRing fun a => { a with keepWarm := none })
  | .driving _ => t

/-- Full feed keeps the converter warm: NORMAL or REVERSED (R159). -/
def fullFeed : FeedMode → Bool
  | .normal => true
  | .reversed => true
  | _ => false

/-- Either line's feed mode field is NORMAL or REVERSED (R159). -/
def warmFeed (s : State) : Bool := fullFeed s.line1.sup.feed || fullFeed s.line2.sup.feed

/-- The judgement's outcome by the feed modes of both lines: keeping warm from now on, or OFF (R159; log 29). -/
def judgeFeeds (s : State) : State :=
  s.modRing fun a =>
    if warmFeed s then { a with converter := .ready, keepWarm := some 0 }
    else { a with converter := .off, keepWarm := none }

/-- No ring cadence runs and nobody waits (R159). -/
def nobodyRings (s : State) : Bool := s.ring.waitList.isEmpty && !ringCadence s.line1 && !ringCadence s.line2

/-- Whether the feed modes are to be judged: no ring cadence runs, the converter is READY and nobody waits (R159). -/
def judgementDue (s : State) : Bool := decide (s.ring.converter = .ready) && nobodyRings s

/-- The keep-warm judgement at the end of a start: a later feed change acts on the state it leaves (R159, R162). -/
def judgeKeepWarm (s : State) : State := if judgementDue s then judgeFeeds s else s

/-- The keep-warm judgement at the end of the last ring cadence, whose moment is marked (R159, R162; log 35). -/
def judgeLastEnd (s : State) : State :=
  if judgementDue s then (judgeFeeds s).modRing fun a => { a with judgedNow := true } else s

/-- Whether the last ring cadence was judged to end at this moment and nothing has rung since, so that a feed change at the
same moment is judged as well (R162; log 35). -/
def judgementStands (s : State) : Bool :=
  s.ring.judgedNow && (decide (s.ring.converter = .ready) || decide (s.ring.converter = .off)) && nobodyRings s

/-- A feed mode field has changed: at the moment of the last ring cadence's end the judgement is made on the modes standing
after both (R162); while the keep-warm timer runs, neither feed being full turns the converter OFF (R159). -/
def feedChanged (s : State) : State :=
  if judgementStands s then judgeFeeds s
  else if s.ring.keepWarm.isSome ∧ warmFeed s = false then
    s.modRing fun a => { a with converter := .off, keepWarm := none }
  else s

/-- The burst of a line, or its waiting entry, ends (R151, R154 to R157): the converter becomes READY, the head of the
wait list being granted when `grants` allows it (R158). -/
def endRinging (grants : Bool) (l : Line) (s : State) : State :=
  if s.ring.converter = .driving l then
    let t := s.modRing fun a => { a with converter := .ready }
    if grants then grantHead t else t
  else s.modRing fun a => { a with waitList := a.waitList.filter fun m => m ≠ l }

/-- Whether the converter's start timer has run out (R150). -/
def startDue (a : RingArbiter) : Bool :=
  match a.startTimer with
  | some n => Config.startMs ≤ n
  | none => false

/-- START_TIMER_EXPIRY (R150): the converter is READY; the head is granted, or the keep-warm rule applies. Not due, it has
no effect (log 5). -/
def execStartTimerExpiry (s : State) : Outcome :=
  .next (if startDue s.ring then
    let t := s.modRing fun a => { a with converter := .ready, startTimer := none }
    if t.ring.waitList = [] then judgeKeepWarm t else grantHead t
  else s)

/-- Whether the keep-warm timer has run out (R159). -/
def keepWarmDue (a : RingArbiter) : Bool :=
  match a.keepWarm with
  | some n => Config.keepWarmMs ≤ n
  | none => false

/-- KEEP_WARM_EXPIRY (R159): the converter goes OFF. Not due, it has no effect (log 5). -/
def execKeepWarmExpiry (s : State) : Outcome :=
  .next (if keepWarmDue s.ring then s.modRing fun a => { a with converter := .off, keepWarm := none } else s)

end Sys2Proof.Machine
end

