-- ==== Sys2Proof/Machine/CallerId.lean ====
section
/-! DEFINITION. On-hook caller identification (spec 09): judging and storing a record (R164, R165), the message (R166), the
transmission's bits and samples (R167, R168), its start, abort and discard (R169 to R173), and LOAD_CALLER_ID. -/

namespace Sys2Proof.Machine

/-! ### The record (R164, R165) -/

/-- A byte's number lies in a range. -/
def inRange (low high : Nat) (b : Byte) : Bool := decide (low ≤ b.toNat) && decide (b.toNat ≤ high)

/-- The date-time part: absent, or its fields within their ranges (R164). The outer none is RANGE. -/
def dateTimeOf (f : CallerFields) : Option (Option DateTime) :=
  if f.parts.getLsbD 0 then
    if inRange 1 12 f.month && inRange 1 31 f.day && inRange 0 23 f.hour && inRange 0 59 f.minute then
      some (some { month := f.month, day := f.day, hour := f.hour, minute := f.minute })
    else none
  else some none

/-- An absent reason, judged when its bit is set (R164). The outer none is RANGE. -/
def reasonPart (given : Bool) (b : Byte) : Option (Option CallerPart) :=
  if given then (reasonOf b).map fun r => some (.absent r) else some none

/-- The number part (R164). The outer none is RANGE. -/
def numberOf (f : CallerFields) : Option (Option CallerPart) :=
  if f.number.isEmpty then reasonPart (f.parts.getLsbD 1) f.numberReason
  else if f.number.all (inRange 0x30 0x39) && decide (f.number.length ≤ 15) then some (some (.given f.number))
  else none

/-- The name part, truncated to its first 15 characters, the others not examined (R164, R165). The outer none is RANGE. -/
def nameOf (f : CallerFields) : Option (Option CallerPart) :=
  if f.name.isEmpty then reasonPart (f.parts.getLsbD 2) f.nameReason
  else if (f.name.take 15).all (inRange 0x20 0x7E) then some (some (.given (f.name.take 15)))
  else none

/-- The record as stored; none is RANGE (R164 check 4). -/
def recordOf (f : CallerFields) : Option CallerRecord :=
  match dateTimeOf f, numberOf f, nameOf f with
  | some d, some n, some m =>
    if d.isNone && n.isNone && m.isNone then none else some { dateTime := d, number := n, name := m }
  | _, _, _ => none

/-! ### The message (R166) -/

/-- Two ASCII digits of a number below 100. -/
def twoDigits (b : Byte) : List Byte := [byteOf (48 + b.toNat / 10), byteOf (48 + b.toNat % 10)]

/-- The content byte of an absent reason: 'O' or 'P' (R166). -/
def reasonChar : AbsentReason → Byte
  | .unavailable => 0x4F
  | .withheld => 0x50

/-- A parameter: code, length and content (R166). -/
def parameter (code : Byte) (content : List Byte) : List Byte := [code, byteOf content.length] ++ content

/-- The date-time parameter (R166). -/
def dateTimeParameter : Option DateTime → List Byte
  | some d => parameter 0x01 (twoDigits d.month ++ twoDigits d.day ++ twoDigits d.hour ++ twoDigits d.minute)
  | none => []

/-- A number or name parameter, by its code when given and its code when absent (R166). -/
def partParameter (givenCode absentCode : Byte) : Option CallerPart → List Byte
  | some (.given chars) => parameter givenCode chars
  | some (.absent r) => parameter absentCode [reasonChar r]
  | none => []

/-- The parameters of a record in their fixed order (R166). -/
def parameters (r : CallerRecord) : List Byte :=
  dateTimeParameter r.dateTime ++ partParameter 0x02 0x04 r.number ++ partParameter 0x07 0x08 r.name

/-- The sum of bytes modulo 256. -/
def byteSum (bytes : List Byte) : Byte := bytes.foldl (· + ·) 0

/-- The message formed from a record: type, length, parameters and checksum (R166). -/
def formMessage (r : CallerRecord) : List Byte :=
  let body := [0x80, byteOf (parameters r).length] ++ parameters r
  body ++ [-(byteSum body)]

/-- The samples of a transmission of a message of `n` bytes (R168). -/
def transmissionSamples (n : Nat) : Nat :=
  let bits := 480 + 10 * n
  20 * (bits / 3) + (if bits % 3 = 1 then 6 else if bits % 3 = 2 then 13 else 0)

/-! ### The transmission (R167 to R173) -/

/-- A transmission is in progress (R163). -/
def inTransmission (c : CallerIdTx) : Bool := c.state ≠ .idle

/-- The message under transmission; none loaded, none (log 28). -/
def messageOf (c : CallerIdTx) : List Byte :=
  match c.loaded with
  | some m => m.message
  | none => []

/-- The last sample of the last stop bit has been sent (R167, R170) (log 24). -/
def allSent (c : CallerIdTx) : Bool := decide (c.state = .data) && decide (10 * (messageOf c).length ≤ c.bitPos)

/-- Bit `i` of the data section: a start bit 0, eight data bits least significant first, a stop bit 1 (R167). -/
def dataBit (message : List Byte) (i : Nat) : Bool :=
  if i % 10 = 0 then false
  else if i % 10 = 9 then true
  else (message.getD (i / 10) 0).getLsbD (i % 10 - 1)

/-- The bit being sent (R167). -/
def currentBit (c : CallerIdTx) : Bool :=
  match c.state with
  | .seizure => c.bitPos % 2 = 1
  | .mark => true
  | .data => dataBit (messageOf c) c.bitPos
  | .idle => true

/-- At the start of a bit 2 is added to the accumulator, and the bit lasts 7 samples with 3 subtracted, or 6 (R168). -/
def startBit (c : CallerIdTx) : CallerIdTx :=
  if c.samplesLeft = 0 then
    if 3 ≤ c.accumulator + 2 then { c with accumulator := c.accumulator + 2 - 3, samplesLeft := 7 }
    else { c with accumulator := c.accumulator + 2, samplesLeft := 6 }
  else c

/-- The position after a bit has ended (R167). -/
def nextBit (c : CallerIdTx) : CallerIdTx :=
  match c.state with
  | .seizure => if c.bitPos + 1 < 300 then { c with bitPos := c.bitPos + 1 } else { c with state := .mark, bitPos := 0 }
  | .mark => if c.bitPos + 1 < 180 then { c with bitPos := c.bitPos + 1 } else { c with state := .data, bitPos := 0 }
  | .data => { c with bitPos := c.bitPos + 1 }
  | .idle => c

/-- The frequency of a bit: 1200 Hz for a 1, 2200 Hz for a 0 (R167). -/
def bitFrequency (b : Bool) : Nat := if b then 1200 else 2200

/-- A number as a sample, limited to -32768..32767 (R147). -/
def limitSample (v : Int) : Sample := BitVec.ofInt 16 (max (-32768) (min 32767 v))

/-- The FSK sample sent now; its number is a free value (R167, log 7). -/
def fskOutput (c : CallerIdTx) : Sample :=
  limitSample (Config.sineSample (bitFrequency (currentBit c)) Config.fskAttenuation c.phase)

/-- The transmitter after one sample has been sent, the phase running on across bits and sections (R167, R168). -/
def fskAdvance (c : CallerIdTx) : CallerIdTx :=
  let b := startBit c
  let d := { b with phase := (b.phase + bitFrequency (currentBit b)) % 8000, samplesLeft := b.samplesLeft - 1 }
  if d.samplesLeft = 0 then nextBit d else d

/-- A transmission starts (R169). -/
def startTransmission (c : CallerIdTx) : CallerIdTx :=
  { c with state := .seizure, bitPos := 0, accumulator := 0, samplesLeft := 0, phase := 0 }

/-- The transmitter IDLE with its counts at 0 and no record (R170, R171). -/
def dropTransmission (c : CallerIdTx) : CallerIdTx :=
  { c with loaded := none, state := .idle, bitPos := 0, accumulator := 0, samplesLeft := 0 }

/-- What a stop of the ring cadence does to the transmitter: a transmission is aborted with CID_ABORTED, a record that
waits is discarded without an event (R171, R172). -/
def stopCallerId (l : Line) (s : State) : State :=
  let t := s.modCid l dropTransmission
  if inTransmission (s.line l).cid then storePlain l .cidAborted 0 0 t else t

/-! ### LOAD_CALLER_ID -/

/-- LOAD_CALLER_ID on one line (R164 checks 3 and 4, R165). -/
def loadOnLine (f : CallerFields) (l : Line) (s : State) : Answer :=
  let x := s.line l
  if x.sup.state ≠ .onHook ∨ inTransmission x.cid then refuse .wrongState s
  else match recordOf f with
    | some r =>
      accept (s.modCid l fun c => { c with loaded := some { record := r, message := formMessage r } })
        (byteOf (formMessage r).length :: natBytes (transmissionSamples (formMessage r).length))
    | none => refuse .range s

/-- The execution of LOAD_CALLER_ID: both a part and its absent reason is MALFORMED, before the line is judged (R164,
R185). -/
def doLoadCallerId (p : Port) (line : Byte) (f : CallerFields) (s : State) : Answer :=
  if f.conflicting then refuse .malformed s else ownerCommand p line (loadOnLine f) s

/-- The execution of a LOAD_CALLER_ID command as taken: a body of the wrong length is MALFORMED (R185 check 2). -/
def doLoadCallerIdBytes (p : Port) (c : Command) (s : State) : Answer :=
  if Config.assemblyKeeps < c.length then refuse .malformed s
  else match callerFieldsOf c.args with
    | some f => doLoadCallerId p c.line f s
    | none => refuse .malformed s

/-- LOAD_CALLER_ID (R164, R165). -/
def execLoadCallerId (p : Port) (tag line parts month day hour minute numberReason nameReason : Byte)
    (number name : List Byte) (s : State) : Outcome :=
  let f : CallerFields := { parts := parts, month := month, day := day, hour := hour, minute := minute,
                            numberReason := numberReason, nameReason := nameReason, number := number, name := name }
  let c := Command.of (codeByte .loadCallerId) tag line f.bytes
  .next (issue p c (doLoadCallerIdBytes p c) s)

end Sys2Proof.Machine
end

