-- ==== Sys2Proof/Machine/Cadence.lean ====
section
/-! DEFINITION. The Cadence Engine (spec 07 sections 7.3 and 7.4): step starts (R141), JUMP and the loop register (R143),
ends (R144), stops (R145, R146), tone phases and output (R147), and the events STEP_TIMER_EXPIRY and CID_DONE. -/

namespace Sys2Proof.Machine

/-! ### Ends and stops -/

/-- The engine with no cadence (R144) (log 33). -/
def endedEngine (c : CadenceEngine) : CadenceEngine :=
  { c with kind := .none, index := 0, current := 0, inHand := none, timer := none, loop := none, zeroRun := 0 }

/-- A cadence ends (R144); for a ring cadence the arbiter then follows its keep-warm rules (R159). -/
def endCadence (l : Line) (s : State) : State :=
  let t := s.modCad l endedEngine
  if ringCadence (s.line l) then judgeLastEnd t else t

/-- A running ring cadence is stopped as by RING_STOP: the arbiter, the transmitter, then the cadence (R145, R156). -/
def stopRing (l : Line) (s : State) : State :=
  if ringCadence (s.line l) then endCadence l (stopCallerId l (endRinging true l s)) else s

/-- A tone cadence runs on a line (R138). -/
def toneCadence (x : LineState) : Bool := x.cad.kind = .tone

/-- A running tone cadence is stopped (R145). -/
def stopTone (l : Line) (s : State) : State := if toneCadence (s.line l) then endCadence l s else s

/-! ### Step starts -/

/-- The step after one that has ended or goes on; after step 63 there is none (R141). -/
def nextStep (i : Fin 64) : Option (Fin 64) := if h : i.val + 1 < 64 then some ⟨i.val + 1, h⟩ else none

/-- Where a JUMP at step `i` goes, by its count and the loop register: the step, if any, and the register after (R143). -/
def jump (i : Fin 64) (e : CadenceStep) (r : Option LoopRegister) : Option (Fin 64) × Option LoopRegister :=
  if e.count = 0 then (some e.target, r)
  else match r with
    | some g =>
      if g.owner = i then
        if 0 < g.remaining then (some e.target, some { owner := i, remaining := g.remaining - 1 })
        else (nextStep i, none)
      else (some e.target, some { owner := i, remaining := e.count - 1 })
    | none => (some e.target, some { owner := i, remaining := e.count - 1 })

/-- The phase of a frequency at the start of a TONE step: continued where the TONE step just before holds the frequency
too, else zero (R147; log 32). -/
def carriedPhase (before : Option TonePair) (c : CadenceEngine) (f : Nat) : Nat :=
  match before with
  | some q => if q.f1 = f then c.phase1 else if q.f2 = f then c.phase2 else 0
  | none => 0

/-- A timed step begins: the step timer starts with the duration in hand and the zero-time run is 0 (R141, R142). -/
def beginTimed (l : Line) (i : Fin 64) (e : CadenceStep) (s : State) : State :=
  s.modLine l fun x => { x with cad := { x.cad with
    current := i, inHand := some { step := e, pair := none }, zeroRun := 0,
    timer := some { start := x.ms, length := 10 * e.duration } } }

/-- A TONE step of a tone cadence begins with its pair read whole (R141, R147). -/
def beginTone (l : Line) (i : Fin 64) (e : CadenceStep) (before : Option TonePair) (s : State) : State :=
  let q := s.pairs[e.tone]
  s.modLine l fun x => { x with cad := { x.cad with
    current := i, inHand := some { step := e, pair := some q }, zeroRun := 0,
    timer := some { start := x.ms, length := 10 * e.duration },
    phase1 := carriedPhase before x.cad q.f1, phase2 := carriedPhase before x.cad q.f2 } }

/-- A RING step of a ring cadence begins: it waits for the grant with its timer stopped (R141, R142). -/
def beginRing (l : Line) (i : Fin 64) (e : CadenceStep) (s : State) : State :=
  ringRequest l (s.modCad l fun c => { c with current := i, inHand := some { step := e, pair := none }, zeroRun := 0,
                                               timer := none })

/-- A CID step of a ring cadence begins with a record loaded: the transmission starts (R141, R169). -/
def beginCid (l : Line) (i : Fin 64) (e : CadenceStep) (s : State) : State :=
  (s.modCad l fun c => { c with current := i, inHand := some { step := e, pair := none }, zeroRun := 0,
                                 timer := none }).modCid l startTransmission

/-- What a step does when a cadence reaches it (R141): take time, lead on to a step with no passage of time, or end. -/
inductive StepEffect
  | timed
  | tone
  | ring
  | cid
  | leadsTo (i : Option (Fin 64)) (register : Option LoopRegister)
  | stop
  deriving DecidableEq, Repr

/-- A step's effect by its action and the kind of the cadence (R141, R143, R169) (log 28). -/
def stepEffect (x : LineState) (i : Fin 64) (e : CadenceStep) : StepEffect :=
  match e.action, x.cad.kind with
  | .ring, .ring => .ring
  | .ring, _ => .timed
  | .quiet, _ => .timed
  | .tone, .tone => .tone
  | .tone, _ => .timed
  | .cid, .ring => if x.cid.loaded.isSome then .cid else .leadsTo (nextStep i) x.cad.loop
  | .cid, _ => .leadsTo (nextStep i) x.cad.loop
  | .jump, _ => let r := jump i e x.cad.loop; .leadsTo r.1 r.2
  | .stop, _ => .stop

/-- The step at `i` begins, and the steps that it leads to without any passage of time (R141). A step with no next one
ends the cadence, and so does a zero-time run of 64 (R144). `before` is the pair of the TONE step that has just ended.
The first argument bounds the recursion; the zero-time run reaches 64 no later. -/
def beginStep (l : Line) (before : Option TonePair) : Nat → Fin 64 → State → State
  | 0, _, s => endCadence l s
  | n + 1, i, s =>
    let x := s.line l
    let e := s.steps[i]
    match stepEffect x i e with
    | .timed => beginTimed l i e s
    | .tone => beginTone l i e before s
    | .ring => beginRing l i e s
    | .cid => beginCid l i e s
    | .stop => endCadence l s
    | .leadsTo next register =>
      let t := s.modCad l fun c => { c with current := i, inHand := some { step := e, pair := none }, timer := none,
                                             loop := register, zeroRun := c.zeroRun + 1 }
      if Config.zeroRunLimit ≤ x.cad.zeroRun + 1 then endCadence l t
      else match next with
        | some j => beginStep l before n j t
        | none => endCadence l t

/-- The steps that a zero-time run may pass, plus the one that takes time. -/
def stepFuel : Nat := Config.zeroRunLimit + 1

/-- The pair of the TONE step in hand, of which a following TONE step carries phases on (R147). -/
def pairInHand (c : CadenceEngine) : Option TonePair := c.inHand.bind StepInHand.pair

/-- The step in hand has ended: the next step begins, or the cadence ends after step 63 (R141, R144). -/
def advanceCadence (l : Line) (s : State) : State :=
  let c := (s.line l).cad
  match nextStep c.current with
  | some i => beginStep l (pairInHand c) stepFuel i (s.modCad l fun c => { c with timer := none })
  | none => endCadence l s

/-- A cadence starts at a step (R139 steps 3 and 4, R140). A ring cadence stops the keep-warm timer (R159). -/
def startCadence (kind : CadenceKind) (l : Line) (i : Fin 64) (s : State) : State :=
  let t := s.modCad l fun c => { c with kind := kind, index := i, current := i, inHand := none, timer := none,
                                         loop := none, zeroRun := 0 }
  let u := if kind = .ring then t.modRing fun a => { a with keepWarm := none, judgedNow := false } else t
  beginStep l none stepFuel i u

/-! ### Tone output (R147) -/

/-- The tone pair sounding now, when a tone cadence is at a TONE step (R147). -/
def soundingPair (c : CadenceEngine) : Option TonePair := if c.kind = .tone then pairInHand c else none

/-- One frequency's part of the output; 0 Hz is absent (R130, R147). -/
def toneComponent (f attenuation phase : Nat) : Int := if f = 0 then 0 else Config.sineSample f attenuation phase

/-- A tone cadence's output sample: the sum of the pair's frequencies, limited, or silence (R147, log 7). -/
def toneOutput (c : CadenceEngine) : Sample :=
  match soundingPair c with
  | some q => limitSample (toneComponent q.f1 q.attenuation c.phase1 + toneComponent q.f2 q.attenuation c.phase2)
  | none => 0

/-- The phases after one sample (R147). -/
def toneAdvance (c : CadenceEngine) : CadenceEngine :=
  match soundingPair c with
  | some q => { c with phase1 := (c.phase1 + q.f1) % 8000, phase2 := (c.phase2 + q.f2) % 8000 }
  | none => c

/-! ### Events -/

/-- Whether the step timer of a running cadence has expired (R142). -/
def stepDue (x : LineState) : Bool := decide (x.cad.kind ≠ .none) && Timer.expired x.ms x.cad.timer

/-- STEP_TIMER_EXPIRY (R142): a granted burst ends first (R154), then the next step begins. Not due, the expiry finds no
step (log 5). -/
def execStepTimerExpiry (l : Line) (s : State) : Outcome :=
  .next (if stepDue (s.line l) then
    advanceCadence l (if s.ring.converter = .driving l then endRinging true l s else s)
  else s)

/-- A transmission completes (R170): the transmitter is IDLE, the record is consumed, CID_DONE is stored, and the step is
handed back to the ring cadence, whose next step begins. -/
def completeTransmission (l : Line) (s : State) : State :=
  let t := storePlain l .cidDone 0 0 (s.modCid l dropTransmission)
  if ringCadence (t.line l) then advanceCadence l t else t

/-- CID_DONE (R170). Before the last sample it has no effect (log 5). -/
def execCidDone (l : Line) (s : State) : Outcome :=
  .next (if allSent (s.line l).cid then completeTransmission l s else s)

end Sys2Proof.Machine
end

