-- ==== Sys2Proof/Machine/Coding.lean ====
section
/-! DEFINITION. Sample coding: LIN16, the LOG8 encoder of R32 and its decoder of R33, and the payload of a frame by its
kind (R28, R34). -/

namespace Sys2Proof.Machine

/-- The position of the highest set bit of `u`, searched down from bit `p` (R32 step 4). -/
def highestBit (u : Nat) : Nat → Nat
  | 0 => 0
  | p + 1 => if u.testBit (p + 1) then p + 1 else highestBit u p

/-- R32 steps 1 to 3: the sign bit and u of a sample. -/
def log8Sign (x : Sample) : Bool := decide (0 ≤ (x.sshiftRight 2).toInt)

/-- R32 steps 2 and 3: the magnitude clamped to 8158, plus 33. -/
def log8Magnitude (x : Sample) : Nat := min 8158 (x.sshiftRight 2).toInt.natAbs + 33

/-- The LOG8 code of a sample (R32). -/
def log8Encode (x : Sample) : Byte :=
  let u := log8Magnitude x
  let p := highestBit u 12
  let step := u / 2 ^ (p - 4) % 16
  ~~~(byteOf ((if log8Sign x then 128 else 0) + (p - 5) * 16 + step))

/-- The sample of a LOG8 code (R33). -/
def log8Decode (code : Byte) : Sample :=
  let v := ~~~code
  let s := (v.extractLsb' 4 3).toNat
  let t := (v.extractLsb' 0 4).toNat
  let magnitude : Int := (2 * t + 33) * 2 ^ s - 33
  BitVec.ofInt 16 (4 * if v.getLsbD 7 then magnitude else -magnitude)

/-- A LIN16 payload's samples, two bytes each, in sample order (R32, spec 10.3). -/
def lin16Decode : List Byte → List Sample
  | hi :: lo :: rest => wordOf hi lo :: lin16Decode rest
  | _ => []

/-- The samples of a payload by its kind (R34). -/
def decodePayload : PayloadKind → List Byte → List Sample
  | .log8, bytes => bytes.map log8Decode
  | .lin16, bytes => lin16Decode bytes

/-- The payload of samples by its kind (R28, R32). -/
def encodePayload : PayloadKind → List Sample → List Byte
  | .log8, xs => xs.map log8Encode
  | .lin16, xs => xs.flatMap wordBytes

/-- The payload bytes of a frame of a kind (R34). -/
def payloadLength : PayloadKind → Nat
  | .log8 => 80
  | .lin16 => 160

end Sys2Proof.Machine
end

