-- ==== Sys2Proof/Machine/Layouts.lean ====
section
/-! DEFINITION. The layouts of the messages and records visible at the ports (spec 10.3): event records, media bodies and
mode words in both directions, and whole messages as the part sends them. -/

namespace Sys2Proof.Machine

/-- An event record, 7 bytes. -/
def eventBytes (e : EventRecord) : List Byte :=
  [eventKindByte e.kind, e.value] ++ wordBytes e.time ++ wordBytes e.duration ++ [eventFlagsByte e]

/-- A mode word, 2 bytes; bits marked ignored are sent as 0. -/
def modeWordBytes (w : ModeWord) : List Byte :=
  [abilityByte w.ability, (boolByte w.ack <<< 7) ||| (classByte w.mediaClass <<< 4) ||| modeByte w.mode]

/-- The mode word of two bytes; none where the class or the mode is outside its set (R180). -/
def modeWordOf (b0 b1 : Byte) : Option ModeWord :=
  match classOf ((b1.extractLsb' 4 2).zeroExtend 8), modeOf (b1.extractLsb' 0 3).toNat with
  | some c, some m => some { ability := abilityOf b0, ack := b1.getLsbD 7, mediaClass := c, mode := m }
  | _, _ => none

/-- The payload kind of a format byte; none for a kind that is neither LOG8 nor LIN16. -/
def kindOf (format : Byte) : Option PayloadKind :=
  match (format.extractLsb' 0 2).toNat with
  | 0 => some .log8
  | 1 => some .lin16
  | _ => none

/-- The payload kind's bits in a format byte. -/
def kindByte : PayloadKind → Byte
  | .log8 => 0
  | .lin16 => 1

/-- A media frame as a MEDIA body. -/
def mediaBody (f : MediaFrame) : List Byte :=
  [lineByte f.line, kindByte f.kind ||| (boolByte f.word.isSome <<< 7)] ++ wordBytes f.sequence ++ dwordBytes f.timestamp
    ++ (match f.word with | some w => modeWordBytes w | none => []) ++ f.payload

/-- The mode word at the head of what follows a body's first 8 bytes, and the payload after it; none where the word is
cut off or malformed. -/
def splitWord (present : Bool) (rest : List Byte) : Option (Option ModeWord × List Byte) :=
  if present then
    match rest with
    | b0 :: b1 :: payload => (modeWordOf b0 b1).map fun w => (some w, payload)
    | _ => none
  else some (none, rest)

/-- The media frame of a MEDIA body; none where it is malformed (R34, R53, R180). -/
def mediaOf : List Byte → Option MediaFrame
  | lf :: format :: s1 :: s0 :: t3 :: t2 :: t1 :: t0 :: rest =>
    match lineOf lf, kindOf format, splitWord (format.getLsbD 7) rest with
    | some l, some k, some (w, payload) =>
      if payload.length = payloadLength k then
        some { line := l, kind := k, sequence := wordOf s1 s0, timestamp := dwordOf t3 t2 t1 t0, word := w,
               payload := payload }
      else none
    | _, _, _ => none
  | _ => none

/-- A reply as a REPLY body. -/
def replyBody (r : Reply) : List Byte := [r.tag, r.code, resultByte r.result] ++ r.data

/-- A whole message: type, body length most significant byte first, body. -/
def Message.bytes : Message → List Byte
  | .reply r => [0x20] ++ natBytes (replyBody r).length ++ replyBody r
  | .media f => [0x30] ++ natBytes (mediaBody f).length ++ mediaBody f

/-- The EMPTY message (R179). -/
def emptyMessageBytes : List Byte := [0, 0, 0]

end Sys2Proof.Machine
end

