-- ==== Sys2Proof/Machine/Depth.lean ====
section
/-! DEFINITION. The Depth Tracker's arithmetic (spec 04): transit and jitter (R81, R82), the target depth (R85), the
smoothed depth (R86) and the trim decision (R88 to R93). A division by 2^k rounds toward minus infinity. -/

namespace Sys2Proof.Machine

/-- The transit of a frame (R81). -/
def transit (arrival timestamp : DWord) : DWord := arrival - timestamp

/-- J16 after a transit difference `d` (R82). -/
def jitterUpdate (jitter d : Int) : Int :=
  jitter + (16 * (min d.natAbs Config.jitterClamp : Nat) - jitter) / 16

/-- A stored frame reaches the jitter estimator (R81). -/
def DepthTracker.stored (arrival timestamp : DWord) (t : DepthTracker) : DepthTracker :=
  { t with
    jitter := match t.lastTransit with
      | some last => jitterUpdate t.jitter (transit arrival timestamp - last).toInt
      | none => t.jitter
    lastTransit := some (transit arrival timestamp) }

/-- The class of the channel's current mode, which selects every class-dependent value (R35, R80). -/
def LineState.mediaClass (x : LineState) : MediaClass := x.chan.mode.mediaClass

/-- The smoothing shift k (R35, R80). -/
def smoothingShift (p : ChannelParams) : MediaClass → Nat
  | .voice => p.kVoice
  | .data => p.kData

/-- The hysteresis H in samples (R35). -/
def hysteresis : MediaClass → Nat
  | .voice => 40
  | .data => 8

/-- The trim rate limit R in frames (R35). -/
def rateLimit : MediaClass → Nat
  | .voice => 4
  | .data => 25

/-- The trim size in samples (R35). -/
def trimSize : MediaClass → Nat
  | .voice => 40
  | .data => 1

/-- The concealment limit in consecutive missing frames (R35). -/
def concealmentLimit : MediaClass → Nat
  | .voice => 5
  | .data => 20

/-- The target depth T (R85). -/
def targetDepth (p : ChannelParams) (c : MediaClass) (jitter : Int) : Nat :=
  match c with
  | .voice => clamp p.tmin p.tmax (80 + 3 * ((jitter + 15) / 16).toNat)
  | .data => p.dataTarget

/-- S after a frame-start that finds depth `d` (R86). -/
def smoothUpdate (smoothed : Int) (d k : Nat) : Int := smoothed + (16 * (d : Int) - smoothed) / 2 ^ k

/-- S within its range (R93). -/
def clampSmoothed (v : Int) : Int := max 0 (min Config.depthTop v)

/-- What a trim decision makes of a period (R90). -/
inductive Trim
  | none
  | surplus
  | deficit
  deriving DecidableEq, Repr

/-- The trim decision: no adjustment below the rate limit, and inside the band about T (R89, R90). -/
def trimDecision (c : MediaClass) (t : DepthTracker) : Trim :=
  if t.since < rateLimit c then .none
  else if t.smoothed > 16 * ((t.target + hysteresis c : Nat) : Int) then .surplus
  else if t.smoothed < 16 * ((t.target - hysteresis c : Nat) : Int) then .deficit
  else .none

/-- F and S after the decision (R88, R91 to R93). -/
def DepthTracker.afterTrim (c : MediaClass) (t : DepthTracker) : Trim → DepthTracker
  | .none => { t with since := min Config.sinceTop (t.since + 1) }
  | .surplus => { t with smoothed := clampSmoothed (t.smoothed - 16 * (trimSize c : Int)), since := 0 }
  | .deficit => { t with smoothed := clampSmoothed (t.smoothed + 16 * (trimSize c : Int)), since := 0 }

/-- The period's samples after the decision (R61, R91, R92). -/
def trimPeriod (c : MediaClass) (samples : List Sample) : Trim → Period
  | .none => { rest := samples, trimmed := false }
  | .surplus =>
    match c with
    | .voice => { rest := samples.drop 40, trimmed := true }
    | .data => { rest := samples.take 79, trimmed := true }
  | .deficit =>
    match c with
    | .voice => { rest := samples ++ samples.drop 40, trimmed := true }
    | .data => { rest := samples ++ samples.drop 79, trimmed := true }

/-- The counters after the decision (R93). -/
def ChannelCounters.afterTrim (c : MediaClass) (k : ChannelCounters) : Trim → ChannelCounters
  | .none => k
  | .surplus => { k with samplesRemoved := satAdd k.samplesRemoved (trimSize c) }
  | .deficit => { k with samplesInserted := satAdd k.samplesInserted (trimSize c) }

end Sys2Proof.Machine
end

