-- ==== Sys2Proof/Machine/Playout.lean ====
section
/-! DEFINITION. The Playout Buffer of one line (spec 03): distance and slots (R51, R52), arrival classification (R54 to
R58), the switch of a splice (R73), the frame-start (R59 to R66) and flushing (R68). Everything here acts on one
`LineState`; what reaches the ports is added by the rows that call it. -/

namespace Sys2Proof.Machine

/-! ### Distance and slots (R51, R52) -/

/-- The distance of a sequence number from the playout point, taken signed (R52). -/
def distance (sequence point : Word) : Int := (sequence - point).toInt

/-- The slot of a sequence number: the number modulo 64 (R51). -/
def slotOf (sequence : Word) : Fin 64 := ⟨sequence.toNat % 64, Nat.mod_lt _ (by decide)⟩

/-- The frame with this sequence number, when it is stored (R52). -/
def stored? (slots : Slots) (sequence : Word) : Option FrameRecord :=
  match slots[slotOf sequence] with
  | some r => if r.sequence = sequence then some r else none
  | none => none

/-- Whether the frame with this sequence number is stored. -/
def isStored (slots : Slots) (sequence : Word) : Bool := (stored? slots sequence).isSome

/-- Store a frame in its slot. -/
def storeSlot (slots : Slots) (r : FrameRecord) : Slots := slots.set (slotOf r.sequence) (some r)

/-- Remove the frame with this sequence number from its slot. -/
def clearSlot (slots : Slots) (sequence : Word) : Slots := slots.set (slotOf sequence) none

/-- The number of stored frames. -/
def storedCount (slots : Slots) : Nat := slots.toList.countP Option.isSome

/-- Consecutive stored frames from a sequence number on, at most `n` (R60). -/
def contiguous (slots : Slots) (sequence : Word) : Nat → Nat
  | 0 => 0
  | n + 1 => if isStored slots sequence then contiguous slots (sequence + 1) n + 1 else 0

/-- The depth D: 80 samples for each consecutive present frame starting at P; 0 with P unset (R60, R62). -/
def depthOf (b : PlayoutBuffer) : Nat :=
  match b.playoutPoint with
  | some p => 80 * contiguous b.slots p 64
  | none => 0

/-- The slot at P is present (R52). -/
def presentAtPoint (b : PlayoutBuffer) : Option FrameRecord := b.playoutPoint.bind (stored? b.slots)

/-! ### Arrival classification (R54 to R58) -/

/-- The outcomes of classification. -/
inductive ArrivalOutcome
  | stored
  | duplicate
  | early
  | late
  | ahead
  | restart
  deriving DecidableEq, Repr

/-- Every stored frame stands at most 63 ahead of sequence `s` (R55). -/
def fitsAfter (slots : Slots) (s : Word) : Bool :=
  slots.toList.all fun o => match o with
    | some r => decide ((r.sequence - s).toInt ≤ 63)
    | none => true

/-- The outcome of an arrival with sequence `s` (R54 to R57). -/
def classify (b : PlayoutBuffer) (s : Word) : ArrivalOutcome :=
  match b.playoutPoint with
  | none => .stored
  | some p =>
    let d := distance s p
    if 0 ≤ d ∧ d ≤ 63 then (if isStored b.slots s then .duplicate else .stored)
    else if -1023 ≤ d ∧ d ≤ -1 then
      (if b.state = .priming ∧ -63 ≤ d ∧ fitsAfter b.slots s then .early else .late)
    else if 64 ≤ d ∧ d ≤ 1023 then .ahead
    else .restart

/-- The playout point that lets sequence `s` take the last place of the window (R56). -/
def aheadPoint (s : Word) : Word := s - 63

/-- A slot's content after the point has moved to `p`: a frame behind it is discarded (R56). -/
def keepAhead (p : Word) (o : Option FrameRecord) : Option FrameRecord :=
  match o with
  | some r => if distance r.sequence p < 0 then none else some r
  | none => none

/-- Stored frames that a move of the point to `p` discards (R56). -/
def countBehind (slots : Slots) (p : Word) : Nat :=
  slots.toList.countP fun o => match o with
    | some r => decide (distance r.sequence p < 0)
    | none => false

/-- A frame is stored: the buffer's effects, the stored counter, and the hand-over to the Depth Tracker after them
(R54 to R58). -/
def storeFrame (x : LineState) (r : FrameRecord) (b : PlayoutBuffer) (t : DepthTracker) (k : ChannelCounters) : LineState :=
  { x with buf := { b with slots := storeSlot b.slots r }
           depth := t.stored r.arrival r.timestamp
           ctr := { k with stored := satAdd k.stored 1 } }

/-- The effect of an arrival by its outcome (R54 to R58). -/
def applyArrival (x : LineState) (r : FrameRecord) : ArrivalOutcome → LineState
  | .stored =>
    storeFrame x r { x.buf with playoutPoint := some (x.buf.playoutPoint.getD r.sequence) } x.depth x.ctr
  | .duplicate => { x with ctr := { x.ctr with duplicate := satAdd x.ctr.duplicate 1 } }
  | .early => storeFrame x r { x.buf with playoutPoint := some r.sequence } x.depth x.ctr
  | .late => { x with ctr := { x.ctr with late := satAdd x.ctr.late 1 } }
  | .ahead =>
    let p := aheadPoint r.sequence
    storeFrame x r { x.buf with playoutPoint := some p, slots := Vector.ofFn fun i => keepAhead p x.buf.slots[i] } x.depth
      { x.ctr with aheadDiscards := satAdd x.ctr.aheadDiscards (countBehind x.buf.slots p) }
  | .restart =>
    storeFrame x r { x.buf with playoutPoint := some r.sequence, slots := Slots.empty, state := .priming, missing := 0 }
      { x.depth with lastTransit := none } { x.ctr with restarts := satAdd x.ctr.restarts 1 }

/-- An arrival is classified and applied. -/
def arrive (x : LineState) (r : FrameRecord) : LineState := applyArrival x r (classify x.buf r.sequence)

/-- Whether an arrival is a RESTART, which latches PLAYOUT_ALERT (R57). -/
def alertsOnArrival (x : LineState) (r : FrameRecord) : Bool := classify x.buf r.sequence = .restart

/-! ### Splice (R70 to R73) -/

/-- A frame joins the splice queue; a full queue first loses its oldest, counted as a splice-drop (R70, R71). -/
def spliceAppend (x : LineState) (r : FrameRecord) : LineState :=
  if x.buf.spliceQueue.length < Config.spliceQueueSize then
    { x with buf := { x.buf with spliceQueue := x.buf.spliceQueue ++ [r] } }
  else
    { x with buf := { x.buf with spliceQueue := x.buf.spliceQueue.drop 1 ++ [r] }
             ctr := { x.ctr with spliceDrops := satAdd x.ctr.spliceDrops 1 } }

/-- Queued frames pass through classification in order; the truth value says whether one was a RESTART (R73 step 2). -/
def arriveAll : LineState → List FrameRecord → LineState × Bool
  | x, [] => (x, false)
  | x, r :: rs =>
    let next := arriveAll (arrive x r) rs
    (next.1, alertsOnArrival x r || next.2)

/-- The switch to the new owner's stream (R73). -/
def switchStream (x : LineState) : LineState × Bool :=
  let cleared := { x with buf := { x.buf with slots := Slots.empty, playoutPoint := none, state := .priming, missing := 0,
                                              spliceQueue := [] } }
  let after := arriveAll cleared x.buf.spliceQueue
  ({ after.1 with buf := { after.1.buf with splicePending := false }
                  depth := { after.1.depth with lastTransit := none } }, after.2)

/-- A splice awaits its switch and a frame of the new stream is queued (R72). -/
def switchReady (b : PlayoutBuffer) : Bool := b.splicePending && !b.spliceQueue.isEmpty

/-! ### Frame-start (R59 to R66) -/

/-- T computed at a frame-start (R85). -/
def refreshTarget (x : LineState) : LineState :=
  { x with depth := { x.depth with target := targetDepth x.chan.params x.mediaClass x.depth.jitter } }

/-- S updated with a depth (R86). -/
def refreshSmoothed (x : LineState) (d : Nat) : LineState :=
  { x with depth := { x.depth with
      smoothed := smoothUpdate x.depth.smoothed d (smoothingShift x.chan.params x.mediaClass) } }

/-- The frame at P is taken: removed, decoded, kept as the last played; P advances and m becomes 0 (R61 steps 2 to 4). -/
def takeFrame (x : LineState) (r : FrameRecord) : LineState :=
  { x with buf := { x.buf with slots := clearSlot x.buf.slots r.sequence
                               playoutPoint := some (r.sequence + 1)
                               missing := 0
                               lastPlayed := some (decodePayload r.kind r.payload) } }

/-- The frame at P is played: the state becomes PLAYING and the trim decision forms the period (R61 steps 2 to 6). -/
def playFrame (x : LineState) (r : FrameRecord) : LineState :=
  let c := x.mediaClass
  let trim := trimDecision c x.depth
  let y := takeFrame x r
  { y with buf := { y.buf with state := .playing, period := trimPeriod c (decodePayload r.kind r.payload) trim }
           depth := x.depth.afterTrim c trim
           ctr := x.ctr.afterTrim c trim }

/-- A period of silence is chosen. -/
def playSilence (x : LineState) : LineState := { x with buf := { x.buf with period := Period.silent } }

/-- A PRIMING frame-start from its second step on (R62 steps 2 to 4). -/
def primingCheck (x : LineState) : LineState :=
  let y := refreshTarget x
  let d := depthOf y.buf
  match presentAtPoint y.buf with
  | some r =>
    if y.depth.target ≤ d then
      playFrame { y with depth := { y.depth with smoothed := 16 * (d : Int), since := rateLimit y.mediaClass } } r
    else playSilence y
  | none => playSilence y

/-- A concealment period: by the class, a faded repetition of the last played frame or zero samples (R64). -/
def concealment (x : LineState) (m : Nat) : Period :=
  match x.mediaClass, x.buf.lastPlayed with
  | .voice, some samples => { rest := samples.map fun v => v.sshiftRight m, trimmed := false }
  | _, _ => Period.silent

/-- A frame-start in PLAYING or CONCEALING that finds the slot at P absent and does not switch (R63 to R65); the truth
value says whether PLAYOUT_ALERT is latched. -/
def passOver (x : LineState) : LineState × Bool :=
  let y := refreshSmoothed (refreshTarget x) 0
  let m := y.buf.missing + 1
  let z := { y with buf := { y.buf with playoutPoint := y.buf.playoutPoint.map (· + 1) }
                    ctr := { y.ctr with concealed := satAdd y.ctr.concealed 1 } }
  if m < concealmentLimit z.mediaClass then
    ({ z with buf := { z.buf with missing := m, state := .concealing, period := concealment z m } }, false)
  else
    ({ z with buf := { z.buf with missing := 0, state := .priming, period := Period.silent } }, true)

/-- A frame-start in PLAYING or CONCEALING (R61, R63). -/
def playingStart (x : LineState) : LineState × Bool :=
  match presentAtPoint x.buf with
  | some r => (playFrame (refreshSmoothed (refreshTarget x) (depthOf x.buf)) r, false)
  | none =>
    if switchReady x.buf then
      let after := switchStream x
      (primingCheck after.1, after.2)
    else passOver x

/-- A frame-start in PRIMING (R62). -/
def primingStart (x : LineState) : LineState × Bool :=
  if switchReady x.buf then
    let after := switchStream x
    (primingCheck after.1, after.2)
  else (primingCheck x, false)

/-- The buffer of a channel that has become CLOSED: emptied, with P unset and the splice ended (R26, R51, R66). -/
def PlayoutBuffer.closedWith (b : PlayoutBuffer) (period : Period) : PlayoutBuffer :=
  { b with state := .closed, slots := Slots.empty, playoutPoint := none, missing := 0, lastPlayed := none,
           splicePending := false, spliceQueue := [], period := period }

/-- A frame-start in DRAINING (R66). -/
def drainingStart (x : LineState) : LineState :=
  match presentAtPoint x.buf with
  | some r =>
    let y := takeFrame x r
    { y with buf := { y.buf with period := { rest := decodePayload r.kind r.payload, trimmed := false } } }
  | none => { x with buf := x.buf.closedWith Period.silent }

/-- A re-prime request is acted on before the frame-start's own handling (R49, R60). -/
def actOnReprime (x : LineState) : LineState :=
  if x.chan.reprime then
    let y := { x with chan := { x.chan with reprime := false } }
    match x.buf.state with
    | .playing => { y with buf := { y.buf with state := .priming, missing := 0 } }
    | .concealing => { y with buf := { y.buf with state := .priming, missing := 0 } }
    | _ => y
  else x

/-- The frame-start of a line (R60); the truth value says whether PLAYOUT_ALERT is latched (R57, R65). -/
def startPeriod (x : LineState) : LineState × Bool :=
  if x.buf.state = .closed then (playSilence x, false)
  else
    let y := actOnReprime x
    match y.buf.state with
    | .priming => primingStart y
    | .playing => playingStart y
    | .concealing => playingStart y
    | .draining => (drainingStart y, false)
    | .closed => (playSilence y, false)

/-! ### Flushing and closing (R26, R59, R68) -/

/-- CHANNEL_FLUSH's effect on a line (R68). -/
def flushBuffer (b : PlayoutBuffer) : PlayoutBuffer :=
  { b with slots := Slots.empty, spliceQueue := [], state := .priming, missing := 0 }

/-- The period under way after an immediate close: its rest becomes silence, the rest of a trimmed period is discarded
(R59; log 14). -/
def Period.closedNow (p : Period) : Period :=
  if p.trimmed then Period.silent else { rest := p.rest.map fun _ => 0, trimmed := false }

end Sys2Proof.Machine
end

