-- ==== Sys2Proof/Machine/Agreement.lean ====
section
/-! DEFINITION. Mode agreement (spec 02 sections 2.6 to 2.8): the choice rule (R38), received words and bare frames (R39 to
R42), restarts (R36), the agreement timer (R43), upspeed (R45), and the commands SET_CLASS, SET_ABILITY and
AGREEMENT_RESTART with the event AGREEMENT_TIMEOUT. -/

namespace Sys2Proof.Machine

/-! ### The choice rule (R38) -/

/-- The outcome of the choice rule. -/
structure Choice where
  mode        : Mode
  dataRefused : Bool
  noCommon    : Bool
  deriving DecidableEq, Repr

/-- The highest DATA-class mode of a set (R35, R38). -/
def bestData (set : BitVec 4) : Option Mode :=
  if hasMode set .d16 then some .d16 else if hasMode set .d8 then some .d8 else none

/-- The highest VOICE-class mode of a set (R35, R38). -/
def bestVoice (set : BitVec 4) : Option Mode :=
  if hasMode set .v16 then some .v16 else if hasMode set .v8 then some .v8 else none

/-- The highest common VOICE-class mode, or V8 with NO_COMMON (R38). -/
def chooseVoice (common : BitVec 4) (dataRefused : Bool) : Choice :=
  match bestVoice common with
  | some m => { mode := m, dataRefused := dataRefused, noCommon := false }
  | none => { mode := .v8, dataRefused := dataRefused, noCommon := true }

/-- The choice rule (R38). -/
def chooseMode (ability : BitVec 4) (requested : MediaClass) (far : ModeWord) : Choice :=
  let common := ability &&& far.ability
  if requested = .data ∨ far.mediaClass = .data then
    match bestData common with
    | some m => { mode := m, dataRefused := false, noCommon := false }
    | none => chooseVoice common true
  else chooseVoice common false

/-! ### Changes of agreement state and of current mode -/

/-- The agreement state changes; AGREEMENT_CHANGED is latched at the owner when it does (R44). -/
def setAgreement (l : Line) (a : Agreement) (s : State) : State :=
  if (s.line l).chan.agreement = a then s
  else latchOwner l (.agreementChanged l) (s.modChan l fun c => { c with agreement := a })

/-- The current mode changes; AGREEMENT_CHANGED is latched at the owner when it does, and a change from VOICE to DATA
class sets the re-prime request (R44, R49). -/
def changeMode (l : Line) (m : Mode) (s : State) : State :=
  if (s.line l).chan.mode = m then s
  else latchOwner l (.agreementChanged l) (s.modChan l fun c =>
    { c with mode := m
             reprime := c.reprime || (decide (c.mode.mediaClass = .voice) && decide (m.mediaClass = .data)) })

/-- An agreement restart (R36). -/
def restartAgreement (l : Line) (s : State) : State :=
  (setAgreement l .advertise s).modLine l fun x =>
    { x with chan := { x.chan with farWord := none, choice := none, flags := AgreementFlags.clear, bareCount := 0,
                                   agreementTimer := if x.buf.state.isOpen then some x.ms else none }
             ctr := { x.ctr with agreementRestarts := satAdd x.ctr.agreementRestarts 1 } }

/-- The choice and its flags computed against the recorded far word, if any (R38, R47). -/
def recompute (c : MediaChannel) : MediaChannel :=
  match c.farWord with
  | some w =>
    let r := chooseMode c.ability c.requestedClass w
    { c with choice := some r.mode, flags := { c.flags with dataRefused := r.dataRefused, noCommon := r.noCommon } }
  | none => c

/-- A far word is recorded and the choice computed (R39, R40). -/
def recordWord (w : ModeWord) (c : MediaChannel) : MediaChannel := recompute { c with farWord := some w }

/-- The agreement enters PRESUMED in V8 and the timer stops; `f` sets the flag and the choice (R42). -/
def enterPresumed (l : Line) (f : MediaChannel → MediaChannel) (s : State) : State :=
  (changeMode l .v8 (setAgreement l .presumed s)).modChan l fun c => f { c with agreementTimer := none }

/-! ### Received frames (R37 to R42) -/

/-- A word received in ADVERTISE (R39). -/
def wordInAdvertise (l : Line) (w : ModeWord) (s : State) : State :=
  setAgreement l .matched (s.modChan l fun c => recordWord w { c with bareCount := 0 })

/-- Whether a received word has the recorded word's ability set and requested class (R40, R41). -/
def sameWord (recorded : Option ModeWord) (w : ModeWord) : Bool :=
  match recorded with
  | some r => decide (r.ability = w.ability ∧ r.mediaClass = w.mediaClass)
  | none => false

/-- A word received in MATCHED (R40) (log 28). -/
def wordInMatched (l : Line) (w : ModeWord) (s : State) : State :=
  let c := (s.line l).chan
  if sameWord c.farWord w then
    if w.ack then
      (changeMode l (c.choice.getD c.mode) (setAgreement l .confirmed s)).modChan l fun c =>
        { c with agreementTimer := none }
    else s
  else s.modChan l (recordWord w)

/-- A received mode word, by the agreement state (R39 to R42). -/
def receiveWord (l : Line) (w : ModeWord) (s : State) : State :=
  match (s.line l).chan.agreement with
  | .advertise => wordInAdvertise l w s
  | .matched => wordInMatched l w s
  | .confirmed =>
    if sameWord (s.line l).chan.farWord w then s else wordInAdvertise l w (restartAgreement l s)
  | .presumed => wordInAdvertise l w (restartAgreement l s)

/-- A received bare frame: counted in ADVERTISE, the tenth making the agreement PRESUMED (R39, R42). -/
def receiveBare (l : Line) (s : State) : State :=
  match (s.line l).chan.agreement with
  | .advertise =>
    let n := (s.line l).chan.bareCount + 1
    let t := s.modChan l fun c => { c with bareCount := n }
    if n < Config.bareLimit then t
    else enterPresumed l (fun c => { c with flags := { c.flags with farSilent := true } }) t
  | _ => s

/-- A frame from the owner reaches the agreement (R37). -/
def examineFrame (l : Line) (word : Option ModeWord) (s : State) : State :=
  match word with
  | some w => receiveWord l w s
  | none => receiveBare l s

/-! ### Upspeed (R45, R127) -/

/-- The triggers that detectors hand over (R127). -/
inductive UpspeedTrigger
  | cngLine
  | answer
  deriving DecidableEq, Repr

/-- Whether a trigger is in the channel's trigger set (R24, R45). -/
def inTriggerSet (p : ChannelParams) : UpspeedTrigger → Bool
  | .cngLine => p.triggerCng
  | .answer => p.triggerAns

/-- Whether an upspeed applies (R45). -/
def upspeedApplies (x : LineState) (t : UpspeedTrigger) : Bool :=
  inTriggerSet x.chan.params t && x.buf.state.isOpen && decide (x.chan.mode.mediaClass = .voice)
    && (decide (x.chan.requestedClass = .voice) || decide (x.chan.agreement = .presumed))

/-- A detector's trigger acts on the channel (R45). -/
def upspeed (l : Line) (t : UpspeedTrigger) (s : State) : State :=
  if upspeedApplies (s.line l) t then
    let requested := s.modChan l fun c => { c with requestedClass := .data }
    if (s.line l).chan.agreement = .presumed then changeMode l .d8 requested else restartAgreement l requested
  else s

/-! ### Rows -/

/-- Whether the channel is CLOSED or DRAINING, in which SET_CLASS, SET_ABILITY, AGREEMENT_RESTART and CHANNEL_FLUSH are
refused (R46 to R48, R68). -/
def notOpen (x : LineState) : Bool := !x.buf.state.isOpen

/-- SET_ABILITY on one line (R47). -/
def abilityOnLine (ability : Byte) (l : Line) (s : State) : Answer :=
  let x := s.line l
  if notOpen x then refuse .wrongState s
  else if x.chan.agreement = .confirmed ∧ x.chan.flags.noCommon = false ∧ hasMode (abilityOf ability) x.chan.mode = false
  then refuse .wrongState s
  else if abilityInRange ability then
    accept (s.modChan l fun c =>
      let d := { c with ability := abilityOf ability }
      if c.agreement = .matched then recompute d else d)
  else refuse .range s

/-- The execution of SET_ABILITY (R47). -/
def doSetAbility (p : Port) (line ability : Byte) (s : State) : Answer := ownerCommand p line (abilityOnLine ability) s

/-- SET_ABILITY (R47). -/
def execSetAbility (p : Port) (tag line ability : Byte) (s : State) : Outcome :=
  .next (issue p (Command.of (codeByte .setAbility) tag line [ability]) (doSetAbility p line ability) s)

/-- SET_CLASS on one line (R46). -/
def classOnLine (mediaClass : Byte) (l : Line) (s : State) : Answer :=
  if notOpen (s.line l) then refuse .wrongState s
  else match classOf mediaClass with
    | some k => accept (restartAgreement l (s.modChan l fun c => { c with requestedClass := k }))
    | none => refuse .range s

/-- The execution of SET_CLASS (R46). -/
def doSetClass (p : Port) (line mediaClass : Byte) (s : State) : Answer := ownerCommand p line (classOnLine mediaClass) s

/-- SET_CLASS (R46). -/
def execSetClass (p : Port) (tag line mediaClass : Byte) (s : State) : Outcome :=
  .next (issue p (Command.of (codeByte .setClass) tag line [mediaClass]) (doSetClass p line mediaClass) s)

/-- AGREEMENT_RESTART on one line (R48). -/
def restartOnLine (l : Line) (s : State) : Answer :=
  if notOpen (s.line l) then refuse .wrongState s else accept (restartAgreement l s)

/-- The execution of AGREEMENT_RESTART (R48). -/
def doAgreementRestart (p : Port) (line : Byte) (s : State) : Answer := ownerCommand p line restartOnLine s

/-- AGREEMENT_RESTART (R48). -/
def execAgreementRestart (p : Port) (tag line : Byte) (s : State) : Outcome :=
  .next (issue p (Command.of (codeByte .agreementRestart) tag line []) (doAgreementRestart p line) s)

/-- Whether the agreement timer has expired in a state it governs (R42, R43). -/
def agreementDue (x : LineState) : Bool :=
  hasRun x.ms x.chan.agreementTimer Config.agreementMs
    && (decide (x.chan.agreement = .advertise) || decide (x.chan.agreement = .matched))

/-- AGREEMENT_TIMEOUT (R42): PRESUMED in V8 with TIMEOUT, the choice absent and a recorded far word kept. Not due, it has
no effect (log 5) (log 12). -/
def execAgreementTimeout (l : Line) (s : State) : Outcome :=
  .next (if agreementDue (s.line l) then
    enterPresumed l (fun c => { c with choice := none, flags := { c.flags with timeout := true } }) s
  else s)

end Sys2Proof.Machine
end

