-- ==== Sys2Proof/Machine/Detectors.lean ====
section
/-! DEFINITION. Tone and digit detection (spec 06): what a block holds (R116), what makes a block present (R118, R122,
R123), the five detectors' states and events (R119 to R125), which of them run (R117), what a stop does (R126), and
the event DETECTOR_BLOCK_BOUNDARY. -/

namespace Sys2Proof.Machine

/-! ### What a block holds (R116; log 8) -/

/-- What one block holds on one side: the tones in it and, for a 2100 Hz tone, the step of its phase at the block's start,
in degrees (R116, R124; log 8). -/
structure BlockReading where
  tones     : List Tone
  phaseStep : Nat
  deriving DecidableEq, Repr

/-- The reading of the last whole block heard: a block of zero samples holds no tone (R125); what any other holds is the
detector's measurement, a free value of its samples (log 8). -/
def heardReading (choice : Nat) (h : Heard) : BlockReading :=
  { tones := if h.block.all (· == 0) then [] else Config.blockTones choice h.block
    phaseStep := Config.blockPhaseStep choice h.before h.block }

/-! ### Judging a block (R118, R122, R123; log 8) -/

/-- A tone lies within ±2.0% of a nominal frequency in Hz (R118). -/
def nearDtmf (nominal : Nat) (t : Tone) : Bool :=
  decide (98 * (10 * nominal) ≤ 100 * t.freq) && decide (100 * t.freq ≤ 102 * (10 * nominal))

/-- The row group's frequencies (R118). -/
def rowFrequencies : List Nat := [697, 770, 852, 941]

/-- The column group's frequencies (R118). -/
def columnFrequencies : List Nat := [1209, 1336, 1477, 1633]

/-- The tones of a block that lie within tolerance of a group, each with its place in the group. -/
def groupTones (group : List Nat) (tones : List Tone) : List (Nat × Tone) :=
  tones.filterMap fun t => (group.findIdx? fun f => nearDtmf f t).map fun i => (i, t)

/-- The digit value of a row and a column (R13, R118): 0 to 9, 10 for *, 11 for #, 12 to 15 for A to D. -/
def digitAt (row column : Nat) : Fin 16 :=
  ([1, 2, 3, 12, 4, 5, 6, 13, 7, 8, 9, 14, 10, 0, 11, 15] : List (Fin 16)).getD (4 * row + column) 0

/-- A DTMF tone's level lies from -36 to -3 dBm0 (R118). -/
def dtmfLevel (t : Tone) : Bool := decide (-360 ≤ t.level) && decide (t.level ≤ -30)

/-- The pair with which a line-side block is present, as its digit; none for an absent block (R118). -/
def dtmfBlock (b : BlockReading) : Option (Fin 16) :=
  match groupTones rowFrequencies b.tones, groupTones columnFrequencies b.tones with
  | [(r, row)], [(c, column)] =>
    if dtmfLevel row && dtmfLevel column && decide (-80 ≤ column.level - row.level)
        && decide (column.level - row.level ≤ 40) then some (digitAt r c)
    else none
  | _, _ => none

/-- A tone lies within `width` of `nominal`, both in Hz. -/
def nearTone (nominal width : Nat) (t : Tone) : Bool :=
  decide (10 * (nominal - width) ≤ t.freq) && decide (t.freq ≤ 10 * (nominal + width))

/-- A fax tone's level lies from -43 to 0 dBm0 (R122, R123). -/
def faxLevel (t : Tone) : Bool := decide (-430 ≤ t.level) && decide (t.level ≤ 0)

/-- Another tone lies within 300 to 3400 Hz and stands within 10 dB of a tone, above it or below (R122; log 8). -/
def disturbs (t other : Tone) : Bool :=
  decide (3000 ≤ other.freq) && decide (other.freq ≤ 34000) && decide ((other.level - t.level).natAbs ≤ 100)

/-- A tone of a block is a calling tone, `others` being the block's other tones (R122). -/
def cngTone (t : Tone) (others : List Tone) : Bool :=
  nearTone 1100 38 t && faxLevel t && !others.any (disturbs t)

/-- Whether a block holds the calling tone: some tone of it is one beside all the others (R122). -/
def cngBlock (b : BlockReading) : Bool :=
  (List.range b.tones.length).any fun i =>
    match b.tones[i]? with
    | some t => cngTone t (b.tones.eraseIdx i)
    | none => false

/-- Whether a block holds the answer tone (R123). -/
def answerBlock (b : BlockReading) : Bool := b.tones.any fun t => nearTone 2100 21 t && faxLevel t

/-- A phase step of 150 to 210 degrees is a reversal (R124). -/
def reversalStep (b : BlockReading) : Bool := decide (150 ≤ b.phaseStep) && decide (b.phaseStep ≤ 210)

/-! ### What a detector tells the line -/

/-- What a block decides: an event to store, and a trigger to hand over first (R127). -/
structure Finding where
  trigger  : Option UpspeedTrigger
  kind     : EventKind
  value    : Byte
  duration : Nat
  deriving DecidableEq, Repr

/-- A finding acts: its trigger, then its event (R127). -/
def applyFinding (l : Line) (s : State) (f : Finding) : State :=
  let t := match f.trigger with
    | some k => upspeed l k s
    | none => s
  storePlain l f.kind f.value f.duration t

/-- Findings act in their order. -/
def applyFindings (l : Line) (fs : List Finding) (s : State) : State := fs.foldl (applyFinding l) s

/-- A span of blocks in ms (R116: 5 ms a block). -/
def blockMs (n : Nat) : Nat := 5 * n

/-! ### The DTMF detector (R119 to R121) -/

/-- A digit becomes ACTIVE at its eighth present block, `now` being the counter there (R119). -/
def activeDigit (d : Fin 16) (now : Word) : DtmfState :=
  .active d (now - BitVec.ofNat 16 (blockMs Config.dtmfBlocks)) Config.dtmfBlocks Config.dtmfBlocks 0 none

/-- A candidate counted so far: qualified at eight blocks, else QUALIFYING (R119, R121). -/
def candidate (d : Fin 16) (n : Nat) (now : Word) : DtmfState :=
  if Config.dtmfBlocks ≤ n then activeDigit d now else .qualifying d n

/-- The digit's end: DTMF_DIGIT from its first to its last present block (R120). -/
def digitFinding (d : Fin 16) (last : Nat) : Finding :=
  { trigger := none, kind := .dtmfDigit, value := byteOf d.val, duration := blockMs last }

/-- The second candidate counted in ACTIVE (R121). -/
def nextCandidate (block : Option (Fin 16)) (next : Option (Fin 16 × Nat)) : Option (Fin 16 × Nat) :=
  match block, next with
  | some q, some (d, n) => if q = d then some (d, n + 1) else some (q, 1)
  | some q, none => some (q, 1)
  | none, _ => none

/-- The DTMF detector judges a block (R119 to R121). -/
def dtmfJudge (now : Word) (block : Option (Fin 16)) : DtmfState → DtmfState × List Finding
  | .idle =>
    match block with
    | some q => (candidate q 1 now, [])
    | none => (.idle, [])
  | .qualifying d n =>
    match block with
    | some q => (if q = d then candidate d (n + 1) now else candidate q 1 now, [])
    | none => (.idle, [])
  | .active d first age last absence next =>
    if block = some d then (.active d first (age + 1) (age + 1) 0 none, [])
    else
      let after := nextCandidate block next
      if absence + 1 < Config.dtmfBlocks then (.active d first (age + 1) last (absence + 1) after, [])
      else
        (match after with
          | some (q, n) => candidate q n now
          | none => .idle, [digitFinding d last])

/-- Whether a DTMF detection is active, for digit-relay muting (R120, R31). -/
def digitActive : DtmfState → Bool
  | .active .. => true
  | _ => false

/-! ### The CNG detectors (R122) -/

/-- A calling tone's qualification (R122, R127). -/
def cngFinding (side : Side) : Finding :=
  { trigger := if side = .line then some .cngLine else none, kind := .toneCng, value := sideByte side, duration := 0 }

/-- A CNG detector judges a block (R122). -/
def cngJudge (side : Side) (block : Bool) : CngState → CngState × List Finding
  | .idle => (if block then .qualifying 1 else .idle, [])
  | .qualifying n =>
    if block then
      if n + 1 < Config.cngBlocks then (.qualifying (n + 1), []) else (.present 0, [cngFinding side])
    else (.idle, [])
  | .present absence =>
    if block then (.present 0, [])
    else if absence + 1 < Config.toneEndBlocks then (.present (absence + 1), []) else (.idle, [])

/-! ### The answer detectors (R123 to R125) -/

/-- An answer tone's qualification (R123, R127). -/
def answerFinding (side : Side) : Finding :=
  { trigger := some .answer, kind := .toneAns, value := sideByte side, duration := 0 }

/-- A reported reversal (R124). -/
def reversalFinding (side : Side) : Finding :=
  { trigger := none, kind := .toneAnsReversal, value := sideByte side, duration := 0 }

/-- An answer tone's end (R125). -/
def toneEndFinding (side : Side) (last : Nat) : Finding :=
  { trigger := none, kind := .toneEnd, value := sideByte side, duration := blockMs last }

/-- Whether a reversal in the block of age `age` is reported: none was within the 20 blocks before (R124). -/
def reportsReversal (age : Nat) (reversal : Option Nat) : Bool :=
  match reversal with
  | some k => decide (Config.reversalBlocks < age - k)
  | none => true

/-- An answer detector judges a block; a reversal is judged between consecutive present blocks only (R123 to R125). -/
def answerJudge (side : Side) (now : Word) (block step : Bool) : AnswerState → AnswerState × List Finding
  | .idle => (if block then .qualifying (now - BitVec.ofNat 16 (blockMs 1)) 1 else .idle, [])
  | .qualifying first n =>
    if block then
      if n + 1 < Config.answerBlocks then (.qualifying first (n + 1), [])
      else (.present first (n + 1) (n + 1) 0 none, [answerFinding side])
    else (.idle, [])
  | .present first age last absence reversal =>
    if block then
      if step && absence == 0 && reportsReversal (age + 1) reversal then
        (.present first (age + 1) (age + 1) 0 (some (age + 1)), [reversalFinding side])
      else (.present first (age + 1) (age + 1) 0 reversal, [])
    else if absence + 1 < Config.toneEndBlocks then (.present first (age + 1) last (absence + 1) reversal, [])
    else (.idle, [toneEndFinding side last])

/-! ### Running and stopping (R116, R117, R126) -/

/-- Whether the DTMF detector runs (R117). -/
def dtmfRuns (x : LineState) : Bool :=
  decide (x.buf.state ≠ .closed) || decide (x.sup.state = .offHook) || decide (x.sup.state = .inBreak)

/-- Whether the CNG and answer detectors run (R117). -/
def toneRuns (x : LineState) : Bool := decide (x.buf.state ≠ .closed)

/-- Whether a detector that starts now starts inside a block, so that the next boundary is not judged (R116). -/
def insideBlock (tick : Nat) (x : LineState) : Bool := x.blockDue || decide (tick ≠ 0)

/-- A detector's running mark after the line's states have changed (R117). -/
def followRunning (inside wanted : Bool) (r : Running) : Running :=
  if wanted then (if r.on then r else { on := true, skip := inside }) else { on := false, skip := false }

/-- What an ACTIVE digit leaves at a stop (R126). -/
def dtmfStopped : DtmfState → List Finding
  | .active d _ _ last _ _ => [digitFinding d last]
  | _ => []

/-- What a PRESENT answer tone leaves at a stop (R126). -/
def answerStopped (side : Side) : AnswerState → List Finding
  | .present _ _ last _ _ => [toneEndFinding side last]
  | _ => []

/-- The detectors after the line's states have changed: those that no longer run are IDLE, those that start begin IDLE
(R116, R117). -/
def followedDetectors (tick : Nat) (x : LineState) : Detectors :=
  let d := x.det
  let inside := insideBlock tick x
  let dt := dtmfRuns x
  let tn := toneRuns x
  { dtmfRun := followRunning inside dt d.dtmfRun
    dtmf := if dt && d.dtmfRun.on then d.dtmf else .idle
    cngLineRun := followRunning inside tn d.cngLineRun
    cngLine := if tn && d.cngLineRun.on then d.cngLine else .idle
    cngNetRun := followRunning inside tn d.cngNetRun
    cngNet := if tn && d.cngNetRun.on then d.cngNet else .idle
    ansLineRun := followRunning inside tn d.ansLineRun
    ansLine := if tn && d.ansLineRun.on then d.ansLine else .idle
    ansNetRun := followRunning inside tn d.ansNetRun
    ansNet := if tn && d.ansNetRun.on then d.ansNet else .idle }

/-- What the detectors that stop leave (R126). -/
def stopFindings (x : LineState) : List Finding :=
  (if dtmfRuns x then [] else dtmfStopped x.det.dtmf)
    ++ (if toneRuns x then [] else answerStopped .line x.det.ansLine ++ answerStopped .network x.det.ansNet)

/-- The detectors follow the line's channel and supervision states: starts and stops, with the events of the stops stored
after those of the cause (R117, R126). -/
def followDetectors (l : Line) (s : State) : State :=
  applyFindings l (stopFindings (s.line l)) (s.modLine l fun x => { x with det := followedDetectors s.tick x })

/-! ### The block boundary (R116) -/

/-- One detector at a boundary: it judges a whole block while it runs; the block in which it started is passed over. -/
def judgeWhole {α : Type} (r : Running) (st : α) (judge : α → α × List Finding) : Running × α × List Finding :=
  if r.on then
    if r.skip then ({ r with skip := false }, st, [])
    else let o := judge st; (r, o.1, o.2)
  else (r, st, [])

/-- The five detectors at a boundary, and what they find, in one of the orders R128 allows (log 15). -/
def judgeBlock (now : Word) (d : Detectors) (lineSide networkSide : BlockReading) : Detectors × List Finding :=
  let a := judgeWhole d.dtmfRun d.dtmf (dtmfJudge now (dtmfBlock lineSide))
  let b := judgeWhole d.cngLineRun d.cngLine (cngJudge .line (cngBlock lineSide))
  let c := judgeWhole d.cngNetRun d.cngNet (cngJudge .network (cngBlock networkSide))
  let e := judgeWhole d.ansLineRun d.ansLine
    (answerJudge .line now (answerBlock lineSide) (reversalStep lineSide))
  let f := judgeWhole d.ansNetRun d.ansNet
    (answerJudge .network now (answerBlock networkSide) (reversalStep networkSide))
  ({ dtmfRun := a.1, dtmf := a.2.1, cngLineRun := b.1, cngLine := b.2.1, cngNetRun := c.1, cngNet := c.2.1,
     ansLineRun := e.1, ansLine := e.2.1, ansNetRun := f.1, ansNet := f.2.1 },
    a.2.2 ++ b.2.2 ++ c.2.2 ++ e.2.2 ++ f.2.2)

/-- The running detectors of a line judge the block that has just ended, by its reading on each side (R116). -/
def judgeReadings (l : Line) (lineSide networkSide : BlockReading) (s : State) : State :=
  let o := judgeBlock (s.line l).ms (s.line l).det lineSide networkSide
  applyFindings l o.2 (s.modLine l fun x => { x with det := o.1, blockDue := false })

/-- DETECTOR_BLOCK_BOUNDARY (R116): the line side is judged by the codec's received samples, the network side by the
samples the Playout Buffer delivered (R34, R59). Not due, it has no effect (log 5). -/
def execDetectorBlockBoundary (l : Line) (lineSide networkSide : Nat) (s : State) : Outcome :=
  .next (if (s.line l).blockDue then
    judgeReadings l (heardReading lineSide (s.line l).lineHeard) (heardReading networkSide (s.line l).netHeard) s
  else s)

end Sys2Proof.Machine
end

