-- ==== Sys2Proof/Machine/Supervision.lean ====
section
/-! DEFINITION. Loop supervision (spec 05): feed (R98, R99), hook samples and chatter (R100, R101), qualification and ring
trip (R102, R103), breaks (R104 to R107), pulse digits (R108, R109), hook timing (R110), loop fault (R112 to R114); the
commands SET_FEED and SET_HOOK_TIMING and the events of the loop. -/

namespace Sys2Proof.Machine

/-! ### The supervisor's events and timings -/

/-- The Loop Supervisor emits an event: it carries the chatter mark, which is then clear (R101). -/
def emit (l : Line) (kind : EventKind) (value : Byte) (duration : Nat) (ringTrip : Bool) (s : State) : State :=
  let x := s.line l
  (storeEvent l { kind := kind, value := value, time := x.ms, duration := durationOf duration, chatter := x.sup.chatter,
                  overrun := false, ringTrip := ringTrip } s).modSup l fun v => { v with chatter := false }

/-- A qualification that starts now, when the filtered hook state is off-hook (R102). -/
def freshQualification (x : LineState) : Option Qualification :=
  if x.sup.filteredOffHook then some { start := x.ms, offQualify := x.sup.timing.offQualify } else none

/-- The overcurrent timer at the moment feed is applied, or at a reset of a fed line: started at once if the current is
above the limit (R96, R113; log 10). -/
def freshOvercurrent (x : LineState) : Option Word := if x.sup.overcurrent then some x.ms else none

/-- A supervisor whose qualification, break, pulse count and interdigit wait are discarded (R98, R112). -/
def discardTimings (v : Supervisor) : Supervisor :=
  { v with qualification := none, breakRecord := none, pulseCount := 0, interdigitTimer := none }

/-- The line is fed and ON_HOOK from this moment on (R98, R102, R113). -/
def enterOnHook (x : LineState) : Supervisor :=
  { x.sup with state := .onHook, qualification := freshQualification x, overcurrentTimer := freshOvercurrent x }

/-- The feed mode field is set, and the keep-warm timer is judged again (R98, R99, R159). -/
def setFeedMode (l : Line) (m : FeedMode) (s : State) : State :=
  if (s.line l).sup.feed = m then s else feedChanged (s.modSup l fun v => { v with feed := m })

/-- A line in STANDBY wakes to NORMAL (R99). -/
def wake (l : Line) (s : State) : State := if (s.line l).sup.feed = .standby then setFeedMode l .normal s else s

/-! ### Going off-hook (R102, R103) -/

/-- A qualification has lasted a time. -/
def qualifiedFor (x : LineState) (ms : Nat) : Bool :=
  match x.sup.qualification with
  | some q => decide (ms ≤ elapsed x.ms q.start)
  | none => false

/-- The off_qualify that a running qualification took at its start (R102, R111). -/
def ownQualify (x : LineState) : Nat :=
  match x.sup.qualification with
  | some q => q.offQualify
  | none => x.sup.timing.offQualify

/-- A qualification is complete: it has lasted 15 ms while a ring cadence runs, its off_qualify otherwise (R102). -/
def qualificationDue (x : LineState) : Bool :=
  decide (x.sup.state = .onHook) && qualifiedFor x (if ringCadence x then Config.ringQualifyMs else ownQualify x)

/-- The line becomes OFF_HOOK: the feed wakes, OFF_HOOK is stored, and the DTMF detector starts (R99, R102, R117). -/
def goOffHook (l : Line) (ringTrip : Bool) (s : State) : State :=
  followDetectors l (emit l .offHook 0 0 ringTrip
    (wake l (s.modSup l fun v => { v with state := .offHook, qualification := none })))

/-- A ring trip (R103): the arbiter removes ringing, the ring cadence stops, caller-ID is aborted, and the line becomes
OFF_HOOK with RING_TRIP. -/
def ringTrip (l : Line) (s : State) : State :=
  goOffHook l true (stopCallerId l (endCadence l (endRinging true l s)))

/-- A completed qualification (R102, R103). -/
def completeQualification (l : Line) (s : State) : State :=
  if ringCadence (s.line l) then ringTrip l s else goOffHook l false s

/-- A qualification completes at once where it has lasted the time that now applies (R102, R139, R145) (log 31). -/
def settleQualification (l : Line) (s : State) : State :=
  if qualificationDue (s.line l) then completeQualification l s else s

/-- OFF_HOOK_QUALIFIED (R102, R103). Not due, it has no effect (log 5). -/
def execOffHookQualified (l : Line) (s : State) : Outcome :=
  .next (if qualificationDue (s.line l) then completeQualification l s else s)

/-! ### Hook samples (R100, R101) -/

/-- The majority of the three kept readings (R100). -/
def majority (h : HookSamples) : Bool := (h.oldest && h.middle) || (h.middle && h.newest) || (h.oldest && h.newest)

/-- The middle reading differs from both the oldest and the newest (R101). -/
def chatterPattern (h : HookSamples) : Bool := h.middle != h.oldest && h.middle != h.newest

/-- A qualification, a break or an interdigit wait is being timed (R101). -/
def beingTimed (v : Supervisor) : Bool := v.qualification.isSome || v.breakRecord.isSome || v.interdigitTimer.isSome

/-- A reading is kept; in DOWN the comparator reads on-hook (R100). The mark is set by a chatter
pattern while something is timed already, before the edge that this reading may make (R101; log 38). -/
def takeReading (offHook : Bool) (v : Supervisor) : Supervisor :=
  let h : HookSamples :=
    { oldest := v.samples.middle, middle := v.samples.newest, newest := offHook && decide (v.state ≠ .down) }
  { v with samples := h, chatter := v.chatter || (chatterPattern h && beingTimed v) }

/-- HOOK_SAMPLE (R100, R101). -/
def execHookSample (l : Line) (offHook : Bool) (s : State) : Outcome := .next (s.modSup l (takeReading offHook))

/-! ### Pulse digits (R108, R109) -/

/-- The pending digit is emitted and the count becomes 0 (R109). -/
def emitDigit (l : Line) (s : State) : State :=
  let n := (s.line l).sup.pulseCount
  let t := s.modSup l fun v => { v with pulseCount := 0, interdigitTimer := none }
  if n = 0 then t
  else if n < 10 then emit l .pulseDigit (byteOf n) 0 false t
  else if n = 10 then emit l .pulseDigit 0 0 false t
  else emit l .breakInvalid 0 0 false t

/-- Whether the interdigit timer has expired (R108). -/
def interdigitDue (x : LineState) : Bool := Timer.expired x.ms x.sup.interdigitTimer

/-- INTERDIGIT_EXPIRY (R109). Not due, it has no effect (log 5). -/
def execInterdigitExpiry (l : Line) (s : State) : Outcome :=
  .next (if interdigitDue (s.line l) then emitDigit l s else s)

/-- The interdigit timer starts afresh (R108). -/
def startInterdigit (now : Word) (v : Supervisor) : Supervisor :=
  { v with interdigitTimer := some { start := now, length := v.timing.interdigit } }

/-! ### Breaks (R104 to R107) -/

/-- A break begins (R104). -/
def beginBreak (now : Word) (v : Supervisor) : Supervisor :=
  { v with state := .inBreak, interdigitTimer := none,
           breakRecord := some { start := now, breakMin := v.timing.breakMin, pulseMax := v.timing.pulseMax,
                                 flashMin := v.timing.flashMin, flashMax := v.timing.flashMax } }

/-- The classes of a break (R105). -/
inductive BreakClass
  | ignored
  | pulse
  | invalid
  | flash
  deriving DecidableEq, Repr

/-- The class of a break of length `b` by its own captured parameters (R105). -/
def breakClass (r : BreakRecord) (b : Nat) : BreakClass :=
  if b < r.breakMin then .ignored
  else if b ≤ r.pulseMax then .pulse
  else if b < r.flashMin then .invalid
  else .flash

/-- A break of length `b` has ended by a return edge, and is classified (R105). -/
def classifyBreak (l : Line) (r : BreakRecord) (b : Nat) (s : State) : State :=
  let now := (s.line l).ms
  let t := s.modSup l fun v => { v with state := .offHook, breakRecord := none }
  match breakClass r b with
  | .ignored => t.modSup l fun v => if 0 < v.pulseCount then startInterdigit now v else v
  | .pulse => t.modSup l fun v => startInterdigit now { v with pulseCount := min 11 (v.pulseCount + 1) }
  | .invalid => emit l .breakInvalid 0 0 false (t.modSup l fun v => { v with pulseCount := 0, interdigitTimer := none })
  | .flash => emit l .flash 0 b false (emitDigit l t)

/-- A hang-up with the captured flash_max (R106). -/
def doHangUp (l : Line) (flashMax : Nat) (s : State) : State :=
  followDetectors l (emit l .onHook 0 flashMax false (stopTone l
    (s.modSup l fun v => { v with state := .onHook, breakRecord := none, pulseCount := 0, interdigitTimer := none })))

/-- The break that has reached its captured flash_max, if any (R106). -/
def overlongBreak (x : LineState) : Option BreakRecord :=
  match x.sup.breakRecord with
  | some r => if decide (x.sup.state = .inBreak) && decide (r.flashMax ≤ elapsed x.ms r.start) then some r else none
  | none => none

/-- HANG_UP (R106). Not due, it has no effect (log 5). -/
def execHangUp (l : Line) (s : State) : Outcome :=
  .next (match overlongBreak (s.line l) with
    | some r => doHangUp l r.flashMax s
    | none => s)

/-- The return edge of a break; one longer than its flash_max is a hang-up first, whose line the edge then finds ON_HOOK
(R105, R107; log 19). -/
def returnEdge (l : Line) (r : BreakRecord) (s : State) : State :=
  let b := elapsed (s.line l).ms r.start
  if b ≤ r.flashMax then classifyBreak l r b s
  else (doHangUp l r.flashMax s).modLine l fun x => { x with sup := { x.sup with qualification := freshQualification x } }

/-- A filtered off-hook edge acts by the supervision state (R102, R105). -/
def offHookEdge (l : Line) (s : State) : State :=
  let t := s.modSup l fun v => { v with filteredOffHook := true }
  match (t.line l).sup.state, (t.line l).sup.breakRecord with
  | .onHook, _ => t.modLine l fun x => { x with sup := { x.sup with qualification := freshQualification x } }
  | .inBreak, some r => returnEdge l r t
  | _, _ => t

/-- A filtered edge toward `offHook` is due: the majority of the readings has changed (R100). -/
def edgeDue (offHook : Bool) (v : Supervisor) : Bool := majority v.samples == offHook && v.filteredOffHook != offHook

/-- FILTERED_OFF_HOOK_EDGE (R100, R102, R105). Not due, it has no effect (log 5). -/
def execFilteredOffHookEdge (l : Line) (s : State) : Outcome :=
  .next (if edgeDue true (s.line l).sup then offHookEdge l s else s)

/-- A filtered on-hook edge begins a break in OFF_HOOK and abandons a qualification in ON_HOOK (R102, R104). -/
def onHookEdge (now : Word) (v : Supervisor) : Supervisor :=
  let w := { v with filteredOffHook := false }
  match v.state with
  | .offHook => beginBreak now w
  | .onHook => { w with qualification := none }
  | _ => w

/-- FILTERED_ON_HOOK_EDGE (R100, R102, R104). Not due, it has no effect (log 5). -/
def execFilteredOnHookEdge (l : Line) (s : State) : Outcome :=
  .next (if edgeDue false (s.line l).sup then s.modSup l (onHookEdge (s.line l).ms) else s)

/-! ### Loop fault (R112, R113) -/

/-- OVERCURRENT_START (R112): the timer starts on a fed line. -/
def execOvercurrentStart (l : Line) (s : State) : Outcome :=
  .next (s.modLine l fun x => { x with sup := { x.sup with
    overcurrent := true
    overcurrentTimer := if x.sup.state = .down then none else some (x.sup.overcurrentTimer.getD x.ms) } })

/-- OVERCURRENT_END (R112): the timer stops. -/
def execOvercurrentEnd (l : Line) (s : State) : Outcome :=
  .next (s.modSup l fun v => { v with overcurrent := false, overcurrentTimer := none })

/-- Overcurrent has persisted for 50 ms on a fed line (R112). -/
def faultDue (x : LineState) : Bool :=
  decide (x.sup.state ≠ .down) && hasRun x.ms x.sup.overcurrentTimer Config.overcurrentMs

/-- Step 5 of a loop fault: LOOP_FAULT is stored for a new series (R112). -/
def openSeries (l : Line) (s : State) : State :=
  if (s.line l).sup.seriesOpen then s
  else (emit l .loopFault 0 0 false s).modSup l fun v => { v with seriesOpen := true }

/-- A loop fault, in the order of R112's steps. -/
def declareFault (l : Line) (s : State) : State :=
  let fed := s.modSup l fun v =>
    { discardTimings v with state := .down, restoreCheck := none, overcurrentTimer := none }
  let stopped := openSeries l (stopTone l (stopRing l fed))
  followDetectors l (stopped.modLine l fun x => { x with sup := { x.sup with retryTimer := some x.ms } })

/-- LOOP_FAULT (R112). Not due, it has no effect (log 5). -/
def execLoopFault (l : Line) (s : State) : Outcome := .next (if faultDue (s.line l) then declareFault l s else s)

/-- The feed is restored after a retry, with its check (R113). -/
def restoreFeed (x : LineState) : LineState :=
  { x with sup := { enterOnHook x with retryTimer := none, restoreCheck := some x.ms } }

/-- FAULT_RETRY_EXPIRY (R113). Not due, it has no effect (log 5). -/
def execFaultRetryExpiry (l : Line) (s : State) : Outcome :=
  .next (if hasRun (s.line l).ms (s.line l).sup.retryTimer Config.retryMs then s.modLine l restoreFeed else s)

/-- The restore check ends without a fault (R113). -/
def closeSeries (l : Line) (s : State) : State :=
  emit l .feedRestored 0 0 false (s.modSup l fun v => { v with restoreCheck := none, seriesOpen := false })

/-- FEED_RESTORED (R113). Not due, it has no effect (log 5). -/
def execFeedRestored (l : Line) (s : State) : Outcome :=
  .next (if hasRun (s.line l).ms (s.line l).sup.restoreCheck Config.restoreMs then closeSeries l s else s)

/-! ### SET_FEED (R98) -/

/-- The feed is removed (R98, OFF). -/
def removeFeed (l : Line) (s : State) : State :=
  let t := feedChanged (s.modSup l fun v =>
    { discardTimings v with feed := .off, state := .down, retryTimer := none, restoreCheck := none, seriesOpen := false,
                            overcurrentTimer := none })
  followDetectors l (stopTone l (stopRing l t))

/-- The feed is applied from OFF in a mode (R98). -/
def applyFeed (l : Line) (m : FeedMode) (s : State) : State :=
  (setFeedMode l m s).modLine l fun x => { x with sup := enterOnHook x }

/-- The effect of an accepted SET_FEED (R98, R114) (log 27). -/
def changeFeed (l : Line) (m : FeedMode) (s : State) : State :=
  if (s.line l).sup.feed = m then s
  else if m = .off then removeFeed l s
  else if (s.line l).sup.feed = .off then applyFeed l m s
  else setFeedMode l m s

/-- STANDBY is refused off-hook and while a ring cadence runs (R98). -/
def standbyRefused (x : LineState) : Bool :=
  decide (x.sup.state = .offHook) || decide (x.sup.state = .inBreak) || ringCadence x

/-- SET_FEED on one line (R98). -/
def feedOnLine (mode : Byte) (l : Line) (s : State) : Answer :=
  match feedOf mode with
  | none => refuse .range s
  | some m =>
    if decide (m = .standby) && standbyRefused (s.line l) then refuse .wrongState s else accept (changeFeed l m s)

/-- The execution of SET_FEED (R98). -/
def doSetFeed (p : Port) (line mode : Byte) (s : State) : Answer := ownerCommand p line (feedOnLine mode) s

/-- SET_FEED (R98). -/
def execSetFeed (p : Port) (tag line mode : Byte) (s : State) : Outcome :=
  .next (issue p (Command.of (codeByte .setFeed) tag line [mode]) (doSetFeed p line mode) s)

/-! ### SET_HOOK_TIMING (R110) -/

/-- The six values after their clamps, flash_max against the clamped flash_min (R110). -/
def clampTiming (offQualify breakMin pulseMax flashMin flashMax interdigit : Word) : HookTiming :=
  let fmin := clamp 150 1500 flashMin.toNat
  { offQualify := clamp 10 200 offQualify.toNat, breakMin := clamp 5 50 breakMin.toNat,
    pulseMax := clamp 40 150 pulseMax.toNat, flashMin := fmin, flashMax := clamp fmin 2000 flashMax.toNat,
    interdigit := clamp 150 800 interdigit.toNat }

/-- The order that the clamped values must have (R110). -/
def timingOrdered (t : HookTiming) : Bool :=
  decide (t.breakMin < t.pulseMax) && decide (t.pulseMax < t.flashMin) && decide (t.flashMin ≤ t.flashMax)

/-- The six values in force, as reply data (spec 10.3). -/
def timingBytes (t : HookTiming) : List Byte :=
  natBytes t.offQualify ++ natBytes t.breakMin ++ natBytes t.pulseMax ++ natBytes t.flashMin ++ natBytes t.flashMax
    ++ natBytes t.interdigit

/-- SET_HOOK_TIMING on one line (R110). -/
def timingOnLine (t : HookTiming) (l : Line) (s : State) : Answer :=
  if timingOrdered t then accept (s.modSup l fun v => { v with timing := t }) (timingBytes t) else refuse .range s

/-- The execution of SET_HOOK_TIMING (R110). -/
def doSetHookTiming (p : Port) (line : Byte) (offQualify breakMin pulseMax flashMin flashMax interdigit : Word)
    (s : State) : Answer :=
  ownerCommand p line (timingOnLine (clampTiming offQualify breakMin pulseMax flashMin flashMax interdigit)) s

/-- SET_HOOK_TIMING (R110). -/
def execSetHookTiming (p : Port) (tag line : Byte) (offQualify breakMin pulseMax flashMin flashMax interdigit : Word)
    (s : State) : Outcome :=
  let args := wordBytes offQualify ++ wordBytes breakMin ++ wordBytes pulseMax ++ wordBytes flashMin
    ++ wordBytes flashMax ++ wordBytes interdigit
  .next (issue p (Command.of (codeByte .setHookTiming) tag line args)
    (doSetHookTiming p line offQualify breakMin pulseMax flashMin flashMax interdigit) s)

end Sys2Proof.Machine
end

