-- ==== Sys2Proof/Machine/Clock.lean ====
section
/-! DEFINITION. Time (spec 00 section 1.1): LINE_SAMPLE is one sample of the local reference that both lines share. It
gathers uplink samples (R28, R31), delivers playout, tone or FSK samples to the codecs (R59, R147, R169) and samples
of both sides to the detectors (R116), and advances the millisecond counters (R13), the converter's timers (R150,
R159) and the block grid (R116). -/

namespace Sys2Proof.Machine

/-- The channel after a line sample: its counter advances while it is not CLOSED, and the sample is gathered while it is
open, with whether a DTMF detection is active at it (R28, R31). -/
def gatherSample (rx : Sample) (x : LineState) : MediaChannel :=
  let c := x.chan
  if x.buf.state = .closed then c
  else
    { c with
      sampleCounter := c.sampleCounter + 1
      gathered := if x.buf.state.isOpen then c.gathered ++ [{ sample := rx, digit := digitActive x.det.dtmf }]
        else c.gathered }

/-- The playout sample delivered now; an exhausted period delivers none, and the codec gets a zero (log 20). -/
def playoutSample (b : PlayoutBuffer) : Sample := b.period.rest.headD 0

/-- The period after its next sample has been delivered (R59). -/
def deliverSample (b : PlayoutBuffer) : PlayoutBuffer := { b with period := { b.period with rest := b.period.rest.drop 1 } }

/-- A sample reaches the detectors of one side (R116). -/
def Heard.push (h : Heard) (v : Sample) : Heard := { h with now := h.now ++ [v] }

/-- The block under way is whole, and the next one begins (R116). -/
def Heard.close (h : Heard) : Heard := { now := [], block := h.now, before := h.block }

/-- The transmitter sends a sample now (R169; log 34). -/
def fskSounds (c : CallerIdTx) : Bool := inTransmission c && !allSent c

/-- The sample the codec receives: the tone cadence's, else the FSK, else playout (R147, R169). -/
def codecSample (x : LineState) : Sample :=
  if x.cad.kind = .tone then toneOutput x.cad
  else if fskSounds x.cid then fskOutput x.cid
  else playoutSample x.buf

/-- One line after a sample: what the codec receives goes to the uplink and the line-side detectors, what the playout
delivers to the network-side ones, also beneath a tone (R28, R34, R59, R116, R147, R168). -/
def sampleLine (rx : Sample) (x : LineState) : LineState :=
  { x with chan := gatherSample rx x
           buf := deliverSample x.buf
           codecOut := codecSample x
           lineHeard := x.lineHeard.push rx
           netHeard := x.netHeard.push (playoutSample x.buf)
           cad := toneAdvance x.cad
           cid := if fskSounds x.cid then fskAdvance x.cid else x.cid }

/-- A millisecond passes on a line (R13). -/
def tickLine (x : LineState) : LineState := { x with ms := x.ms + 1 }

/-- A millisecond passes at the converter: its running timers advance (R150, R159; log 11). -/
def tickRing (a : RingArbiter) : RingArbiter :=
  { a with startTimer := a.startTimer.map (· + 1), keepWarm := a.keepWarm.map (· + 1) }

/-- A block boundary is reached on both of a line's grids (R116). -/
def endBlock (x : LineState) : LineState :=
  { x with blockDue := true, lineHeard := x.lineHeard.close, netHeard := x.netHeard.close }

/-- Every eighth sample is a millisecond (R13). -/
def passMillisecond (s : State) : State :=
  if s.tick % 8 = 0 then { s with line1 := tickLine s.line1, line2 := tickLine s.line2, ring := tickRing s.ring } else s

/-- Every fortieth sample ends a block (R116). -/
def passBlock (s : State) : State :=
  if s.tick = 0 then { s with line1 := endBlock s.line1, line2 := endBlock s.line2 } else s

/-- Time has moved on from the last ring cadence's end (R162; log 35). -/
def laterMoment (a : RingArbiter) : RingArbiter := { a with judgedNow := false }

/-- LINE_SAMPLE (R28, R13, R168): `rx1` and `rx2` are what the two codecs receive (log 6). -/
def execLineSample (rx1 rx2 : Sample) (s : State) : Outcome :=
  .next (passBlock (passMillisecond
    { s with line1 := sampleLine rx1 s.line1, line2 := sampleLine rx2 s.line2, ring := laterMoment s.ring,
             tick := (s.tick + 1) % 40 }))

end Sys2Proof.Machine
end

