-- ==== Sys2Proof/Machine/CadenceCommands.lean ====
section
/-! DEFINITION. The four commands of the Cadence Engine: RING_START (R139), TONE_START (R140), RING_STOP and TONE_STOP
(R145). -/

namespace Sys2Proof.Machine

/-- The step that an index names; none above 63 (R139, R140). -/
def stepIndex (b : Byte) : Option (Fin 64) := if h : b.toNat < 64 then some ⟨b.toNat, h⟩ else none

/-- The effect of an accepted RING_START, in the order of R139, with the qualification that completes at once (R102). -/
def startRing (l : Line) (i : Fin 64) (s : State) : State :=
  settleQualification l (startCadence .ring l i (wake l (stopRing l s)))

/-- RING_START on one line (R139). -/
def ringStartOnLine (step : Byte) (l : Line) (s : State) : Answer :=
  if (s.line l).sup.state ≠ .onHook then refuse .wrongState s
  else match stepIndex step with
    | some i => accept (startRing l i s)
    | none => refuse .range s

/-- The execution of RING_START (R139). -/
def doRingStart (p : Port) (line step : Byte) (s : State) : Answer := ownerCommand p line (ringStartOnLine step) s

/-- RING_START (R139). -/
def execRingStart (p : Port) (tag line step : Byte) (s : State) : Outcome :=
  .next (issue p (Command.of (codeByte .ringStart) tag line [step]) (doRingStart p line step) s)

/-- RING_STOP on one line: with no ring cadence it changes nothing; else the cadence stops and a qualification that has
lasted off_qualify completes (R145, R102). -/
def ringStopOnLine (l : Line) (s : State) : Answer :=
  accept (if ringCadence (s.line l) then settleQualification l (stopRing l s) else s)

/-- The execution of RING_STOP (R145). -/
def doRingStop (p : Port) (line : Byte) (s : State) : Answer := ownerCommand p line ringStopOnLine s

/-- RING_STOP (R145). -/
def execRingStop (p : Port) (tag line : Byte) (s : State) : Outcome :=
  .next (issue p (Command.of (codeByte .ringStop) tag line []) (doRingStop p line) s)

/-- TONE_START is accepted in OFF_HOOK and BREAK (R140). -/
def toneAllowed (v : Supervision) : Bool := decide (v = .offHook) || decide (v = .inBreak)

/-- The effect of an accepted TONE_START (R140). -/
def startTone (l : Line) (i : Fin 64) (s : State) : State := startCadence .tone l i (stopTone l s)

/-- TONE_START on one line (R140). -/
def toneStartOnLine (step : Byte) (l : Line) (s : State) : Answer :=
  if toneAllowed (s.line l).sup.state then
    match stepIndex step with
    | some i => accept (startTone l i s)
    | none => refuse .range s
  else refuse .wrongState s

/-- The execution of TONE_START (R140). -/
def doToneStart (p : Port) (line step : Byte) (s : State) : Answer := ownerCommand p line (toneStartOnLine step) s

/-- TONE_START (R140). -/
def execToneStart (p : Port) (tag line step : Byte) (s : State) : Outcome :=
  .next (issue p (Command.of (codeByte .toneStart) tag line [step]) (doToneStart p line step) s)

/-- TONE_STOP on one line (R145). -/
def toneStopOnLine (l : Line) (s : State) : Answer := accept (stopTone l s)

/-- The execution of TONE_STOP (R145). -/
def doToneStop (p : Port) (line : Byte) (s : State) : Answer := ownerCommand p line toneStopOnLine s

/-- TONE_STOP (R145). -/
def execToneStop (p : Port) (tag line : Byte) (s : State) : Outcome :=
  .next (issue p (Command.of (codeByte .toneStop) tag line []) (doToneStop p line) s)

end Sys2Proof.Machine
end

