-- ==== Sys2Proof/Machine/Channel.lean ====
section
/-! DEFINITION. The Media Channel's commands and events (spec 02, spec 03): CHANNEL_OPEN (R24, R25), CHANNEL_CLOSE of both
options (R26, R27), CHANNEL_FLUSH (R68), READ_COUNTERS (R77, R78), UPLINK_BOUNDARY (R28 to R31) and FRAME_START (R60). -/

namespace Sys2Proof.Machine

/-! ### CHANNEL_OPEN (R24, R25) -/

/-- The parameters of a CHANNEL_OPEN: the defaults with the present flag clear, else the fields, clamped (R24). -/
def openParams (present : Byte) (tmin tmax dataTarget : Word) (kVoice kData relay triggers : Byte) : ChannelParams :=
  if present = 0 then ChannelParams.default
  else
    let low := clamp 80 2400 tmin.toNat
    { tmin := low, tmax := clamp low 4800 tmax.toNat, dataTarget := clamp 400 4800 dataTarget.toNat,
      kVoice := clamp 2 8 kVoice.toNat, kData := clamp 2 8 kData.toNat, relay := relay != 0,
      triggerCng := triggers.getLsbD 0, triggerAns := triggers.getLsbD 1 }

/-- The parameter values in force, as reply data (spec 10.3); digit relay that is on is sent as 1 (log 36). -/
def paramBytes (q : ChannelParams) : List Byte :=
  natBytes q.tmin ++ natBytes q.tmax ++ natBytes q.dataTarget ++ [byteOf q.kVoice, byteOf q.kData, boolByte q.relay,
    boolByte q.triggerCng ||| (boolByte q.triggerAns <<< 1)]

/-- The mode a channel opens in: V16 where the set holds it, else V8 (R25 step 5). -/
def openingMode (set : BitVec 4) : Mode := if hasMode set .v16 then .v16 else .v8

/-- The Media Channel of a new call (R25 steps 1 and 3 to 6); the agreement timer starts at `now`. -/
def newChannel (q : ChannelParams) (set : BitVec 4) (now : Word) : MediaChannel :=
  { params := q, ability := set, requestedClass := .voice, mode := openingMode set, agreement := .advertise,
    farWord := none, choice := none, flags := AgreementFlags.clear, bareCount := 0, agreementTimer := some now,
    reprime := false, sampleCounter := 0, nextSequence := 0, nextTimestamp := 0, gathered := [] }

/-- The line of a new call (R25, R51, R79) (log 13); J16 starts at 0 as R25 and R79 say, where R83 says that it is kept
(log 37). -/
def openLine (q : ChannelParams) (set : BitVec 4) (x : LineState) : LineState :=
  { x with chan := newChannel q set x.ms
           buf := { x.buf with state := .priming, slots := Slots.empty, playoutPoint := none, missing := 0,
                               lastPlayed := none, splicePending := false, spliceQueue := [] }
           depth := { jitter := 0, lastTransit := none, smoothed := 0, target := q.tmin, since := 0 }
           ctr := ChannelCounters.zero }

/-- CHANNEL_OPEN on one line (R24, R25); the detectors start (R117). -/
def openOnLine (ability : Byte) (q : ChannelParams) (l : Line) (s : State) : Answer :=
  if (s.line l).buf.state ≠ .closed then refuse .wrongState s
  else if abilityInRange ability then
    accept (followDetectors l (s.modLine l (openLine q (abilityOf ability)))) (paramBytes q)
  else refuse .range s

/-- The execution of CHANNEL_OPEN (R24). -/
def doChannelOpen (p : Port) (line ability present : Byte) (tmin tmax dataTarget : Word)
    (kVoice kData relay triggers : Byte) (s : State) : Answer :=
  ownerCommand p line (openOnLine ability (openParams present tmin tmax dataTarget kVoice kData relay triggers)) s

/-- CHANNEL_OPEN (R24, R25). -/
def execChannelOpen (p : Port) (tag line ability present : Byte) (tmin tmax dataTarget : Word)
    (kVoice kData relay triggers : Byte) (s : State) : Outcome :=
  let args := [ability, present] ++ wordBytes tmin ++ wordBytes tmax ++ wordBytes dataTarget
    ++ [kVoice, kData, relay, triggers]
  .next (issue p (Command.of (codeByte .channelOpen) tag line args)
    (doChannelOpen p line ability present tmin tmax dataTarget kVoice kData relay triggers) s)

/-! ### CHANNEL_CLOSE (R26, R27) -/

/-- What a close of any kind ends in the Media Channel: the partial frame is discarded and the agreement timer stops
(R26, R27). -/
def stopUplink (c : MediaChannel) : MediaChannel := { c with agreementTimer := none, gathered := [] }

/-- The line with its channel CLOSED at once (R26, R59). -/
def closeLine (x : LineState) : LineState :=
  { x with chan := { stopUplink x.chan with reprime := false }
           buf := x.buf.closedWith x.buf.period.closedNow }

/-- The channel becomes CLOSED and the detectors that stop leave their events (R26, R117, R126). -/
def closeNow (l : Line) (s : State) : State := followDetectors l (s.modLine l closeLine)

/-- CHANNEL_CLOSE with the immediate option on one line (R26). -/
def closeOnLine (l : Line) (s : State) : Answer :=
  if (s.line l).buf.state = .closed then refuse .wrongState s else accept (closeNow l s)

/-- An open channel becomes DRAINING (R27). -/
def drainLine (x : LineState) : LineState :=
  { x with chan := stopUplink x.chan, buf := { x.buf with state := .draining } }

/-- CHANNEL_CLOSE with the drain option on one line (R27). -/
def drainOnLine (l : Line) (s : State) : Answer :=
  match (s.line l).buf.state with
  | .closed => refuse .wrongState s
  | .draining => accept s
  | _ => accept (s.modLine l drainLine)

/-- CHANNEL_CLOSE by its option byte; an option other than the two is refused RANGE, after the state check (R185). -/
def closeByOption (option : Byte) (l : Line) (s : State) : Answer :=
  if option = 0 then closeOnLine l s
  else if option = 1 then drainOnLine l s
  else if (s.line l).buf.state = .closed then refuse .wrongState s
  else refuse .range s

/-- The execution of CHANNEL_CLOSE as taken (R26, R27). -/
def doChannelClose (p : Port) (line option : Byte) (s : State) : Answer := ownerCommand p line (closeByOption option) s

/-- CHANNEL_CLOSE with the immediate option (R26). -/
def execChannelCloseImmediate (p : Port) (tag line : Byte) (s : State) : Outcome :=
  .next (issue p (Command.of (codeByte .channelClose) tag line [0]) (ownerCommand p line closeOnLine) s)

/-- CHANNEL_CLOSE with the drain option (R27). -/
def execChannelCloseDrain (p : Port) (tag line : Byte) (s : State) : Outcome :=
  .next (issue p (Command.of (codeByte .channelClose) tag line [1]) (ownerCommand p line drainOnLine) s)

/-! ### CHANNEL_FLUSH (R68) -/

/-- CHANNEL_FLUSH on one line (R68). -/
def flushOnLine (l : Line) (s : State) : Answer :=
  if notOpen (s.line l) then refuse .wrongState s else accept (s.modBuf l flushBuffer)

/-- The execution of CHANNEL_FLUSH (R68). -/
def doChannelFlush (p : Port) (line : Byte) (s : State) : Answer := ownerCommand p line flushOnLine s

/-- CHANNEL_FLUSH (R68). -/
def execChannelFlush (p : Port) (tag line : Byte) (s : State) : Outcome :=
  .next (issue p (Command.of (codeByte .channelFlush) tag line []) (doChannelFlush p line) s)

/-! ### READ_COUNTERS (R77, R78) -/

/-- The fifteen counters in the order of R76's table. -/
def ChannelCounters.list (k : ChannelCounters) : List Word :=
  [k.stored, k.late, k.duplicate, k.aheadDiscards, k.restarts, k.concealed, k.samplesRemoved, k.samplesInserted,
    k.spliceDrops, k.stray, k.closedArrivals, k.uplinkSent, k.uplinkUnrouted, k.uplinkDropped, k.agreementRestarts]

/-- The agreement items of a counters block: flags, choice, far word (spec 10.3). -/
def agreementBytes (c : MediaChannel) : List Byte :=
  [agreementFlagsByte c.flags, match c.choice with | some m => modeByte m | none => 0xFF, boolByte c.farWord.isSome]
    ++ (match c.farWord with | some w => modeWordBytes w | none => [0, 0])

/-- The playout snapshot of a counters block (R77, spec 10.3). -/
def playoutBytes (b : PlayoutBuffer) (t : DepthTracker) : List Byte :=
  [channelByte b.state, boolByte b.playoutPoint.isSome] ++ wordBytes (b.playoutPoint.getD 0)
    ++ [byteOf (storedCount b.slots), byteOf b.missing, boolByte b.splicePending, byteOf b.spliceQueue.length]
    ++ dwordBytes (BitVec.ofInt 32 t.jitter) ++ dwordBytes (BitVec.ofInt 32 t.smoothed) ++ natBytes t.target

/-- A line's counters block, 53 bytes (R77, spec 10.3). -/
def countersBlock (l : Line) (s : State) : List Byte :=
  let x := s.line l
  x.ctr.list.flatMap wordBytes ++ agreementBytes x.chan ++ playoutBytes x.buf x.depth

/-- A clearing READ_COUNTERS sets the counters to 0 (R78). -/
def clearCounters (clear : Byte) (l : Line) (s : State) : State :=
  if clear = 0 then s else s.modCtr l fun _ => ChannelCounters.zero

/-- The execution of READ_COUNTERS (R77, R78). -/
def doReadCounters (line clear : Byte) (s : State) : Answer := reportCommand line countersBlock (clearCounters clear) s

/-- READ_COUNTERS (R77, R78). -/
def execReadCounters (p : Port) (tag line clear : Byte) (s : State) : Outcome :=
  .next (issue p (Command.of (codeByte .readCounters) tag line [clear]) (doReadCounters line clear) s)

/-! ### UPLINK_BOUNDARY (R28 to R31, R184) -/

/-- Whether an uplink frame carries a mode word (R30). -/
def carriesWord (a : Agreement) (sequence : Word) : Bool :=
  match a with
  | .advertise => true
  | .matched => true
  | .confirmed => sequence.toNat % 10 = 0
  | .presumed => sequence.toNat % 50 = 0

/-- The mode word that the part sends (R30). -/
def ownWord (c : MediaChannel) : ModeWord :=
  { ability := c.ability
    ack := decide (c.agreement = .matched) || decide (c.agreement = .confirmed)
    mediaClass := c.requestedClass
    mode := if c.agreement = .matched then c.choice.getD c.mode else c.mode }

/-- Whether the frame of these samples is muted (R31). -/
def muted (c : MediaChannel) (gathered : List Gathered) : Bool :=
  c.params.relay && decide (c.mode.mediaClass = .voice) && gathered.any Gathered.digit

/-- The frame of 80 gathered samples (R28, R30, R31). -/
def uplinkFrame (l : Line) (c : MediaChannel) : MediaFrame :=
  let g := c.gathered.take Config.frameSamples
  { line := l, kind := c.mode.payload, sequence := c.nextSequence, timestamp := c.nextTimestamp
    word := if carriesWord c.agreement c.nextSequence then some (ownWord c) else none
    payload := encodePayload c.mode.payload (g.map fun x => if muted c g then 0 else x.sample) }

/-- The channel after its frame has been built (R28). -/
def afterUplink (c : MediaChannel) : MediaChannel :=
  { c with nextSequence := c.nextSequence + 1, nextTimestamp := c.nextTimestamp + 80,
           gathered := c.gathered.drop Config.frameSamples }

/-- The oldest media frame of a queue and the queue without it (R184). -/
def takeMedia : List Message → Option MediaFrame × List Message
  | [] => (none, [])
  | .media f :: rest => (some f, rest)
  | .reply r :: rest => ((takeMedia rest).1, .reply r :: (takeMedia rest).2)

/-- The oldest media frame that no READ is sending, and the queue without it (R184). -/
def takeOldest (q : PortLink) : Option MediaFrame × List Message :=
  match q.sending, q.outbound with
  | .head, m :: rest => ((takeMedia rest).1, m :: (takeMedia rest).2)
  | _, queue => takeMedia queue

/-- A full queue loses its oldest media frame, counted at the line of that frame (R184, R50). -/
def makeRoom (p : Port) (s : State) : State :=
  if mediaCount (s.port p) < Config.mediaPlaces then s
  else
    let o := takeOldest (s.port p)
    let t := s.modPort p fun q => { q with outbound := o.2 }
    match o.1 with
    | some f => t.modCtr f.line fun k => { k with uplinkDropped := satAdd k.uplinkDropped 1 }
    | none => t

/-- A built frame is routed by the line's owner (R29). -/
def routeUplink (l : Line) (f : MediaFrame) (s : State) : State :=
  match (s.line l).owner with
  | some p =>
    (enqueueMessage p (.media f) (makeRoom p s)).modCtr l fun k => { k with uplinkSent := satAdd k.uplinkSent 1 }
  | none => s.modCtr l fun k => { k with uplinkUnrouted := satAdd k.uplinkUnrouted 1 }

/-- A boundary is due: the channel is open and 80 samples are gathered (R28). -/
def uplinkDue (x : LineState) : Bool := x.buf.state.isOpen && decide (Config.frameSamples ≤ x.chan.gathered.length)

/-- UPLINK_BOUNDARY (R28). Not due, it has no effect (log 5). -/
def execUplinkBoundary (l : Line) (s : State) : Outcome :=
  .next (if uplinkDue (s.line l) then
    routeUplink l (uplinkFrame l (s.line l).chan) (s.modChan l afterUplink)
  else s)

/-! ### FRAME_START (R60) -/

/-- The period under way is exhausted (R59). -/
def frameDue (x : LineState) : Bool := x.buf.period.rest.isEmpty

/-- A frame-start of a line, with its notice (R57, R65) and, at the end of a drain, the stop of the detectors (R117). -/
def beginPeriod (l : Line) (s : State) : State :=
  let o := startPeriod (s.line l)
  let t := s.modLine l fun _ => o.1
  let u := if o.2 then latchOwner l (.playoutAlert l) t else t
  if (s.line l).buf.state ≠ .closed ∧ o.1.buf.state = .closed then followDetectors l u else u

/-- FRAME_START (R60). Before the period's last sample it has no effect (log 5). -/
def execFrameStart (l : Line) (s : State) : Outcome := .next (if frameDue (s.line l) then beginPeriod l s else s)

end Sys2Proof.Machine
end

