-- ==== Sys2Proof/Machine/LineTable.lean ====
section
/-! DEFINITION. The Line Table (spec 01): owner changes and their effects (R8 to R12), CLAIM, RELEASE, HAND_OVER, READ_LINE,
READ_EVENTS, LINE_RESET (R19), DEVICE_RESET (R20, R21) and POWER_ON_RESET (R22). -/

namespace Sys2Proof.Machine

/-! ### Effects of an owner change (R8 to R12) -/

/-- The send position after the messages that `gone` holds of have left the queue: a message under way that leaves is
sent to its end from the position (R9, R179). -/
def keepSending (gone : Message → Bool) (q : PortLink) : Sending :=
  match q.sending, q.outbound with
  | .head, m :: _ => if gone m then .departed m else .head
  | st, _ => st

/-- The outbound purge of a line at a port (R9). -/
def purgeMedia (p : Port) (l : Line) (s : State) : State :=
  let n := (s.port p).outbound.countP (Message.isMediaOf l)
  (s.modPort p fun q => { q with outbound := q.outbound.filter fun m => !m.isMediaOf l
                                 sending := keepSending (Message.isMediaOf l) q }).modCtr l fun k =>
    { k with uplinkDropped := satAdd k.uplinkDropped n }

/-- The splice becomes PENDING, a queue of a splice already pending being emptied as splice-drops (R10, R11). -/
def pendSplice (x : LineState) : LineState :=
  { x with buf := { x.buf with splicePending := true, spliceQueue := [] }
           ctr := { x.ctr with spliceDrops := satAdd x.ctr.spliceDrops x.buf.spliceQueue.length } }

/-- What an owner change does to the channel: nothing when CLOSED; else the splice is pending and the agreement restarts
(R10, R11). -/
def channelAtChange (l : Line) (s : State) : State :=
  if (s.line l).buf.state = .closed then s else restartAgreement l (s.modLine l pendSplice)

/-- The new owner is told of events that wait (R12). -/
def noticeQueued (l : Line) (s : State) : State :=
  if (s.line l).events.isEmpty then s else latchOwner l (.events l) s

/-- The previous owner loses the line: its notice and the purge of its queue (R8, R9). -/
def leavePort (l : Line) (previous : Option Port) (s : State) : State :=
  match previous with
  | some p => purgeMedia p l (latch p (.ownershipLost l) s)
  | none => s

/-- An owner change made by CLAIM, RELEASE or HAND_OVER, with its effects (R3, R8 to R12). -/
def changeOwner (l : Line) (new : Option Port) (s : State) : State :=
  let previous := (s.line l).owner
  noticeQueued l (channelAtChange l (leavePort l previous
    (s.modLine l fun x => { x with owner := new, generation := x.generation + 1 })))

/-- A line's owner and generation as reply data. -/
def ownerBytes (l : Line) (s : State) : List Byte := ownerByte (s.line l).owner :: wordBytes (s.line l).generation

/-! ### CLAIM, RELEASE, HAND_OVER (R4 to R7) -/

/-- CLAIM on one line: compare and take (R4). -/
def claimLine (p : Port) (l : Line) (owner : Option Port) (generation : Word) (s : State) : Answer :=
  if (s.line l).owner = owner ∧ (s.line l).generation = generation then
    let t := if owner = some p then s else changeOwner l (some p) s
    accept t (ownerBytes l t)
  else { state := s, result := .held, data := ownerBytes l s }

/-- The execution of CLAIM: ALL is refused BAD_LINE, an owner outside the three RANGE (R4, R18). -/
def doClaim (p : Port) (line owner : Byte) (generation : Word) (s : State) : Answer :=
  match lineOf line, ownerOf owner with
  | some l, some o => claimLine p l o generation s
  | some _, none => refuse .range s
  | none, _ => refuse .badLine s

/-- CLAIM (R4). -/
def execClaim (p : Port) (tag line owner : Byte) (generation : Word) (s : State) : Outcome :=
  .next (issue p (Command.of (codeByte .claim) tag line (owner :: wordBytes generation)) (doClaim p line owner generation) s)

/-- RELEASE on one line (R6). -/
def releaseOnLine (l : Line) (s : State) : Answer :=
  let t := changeOwner l none s
  accept t (wordBytes (t.line l).generation)

/-- The execution of RELEASE (R6). -/
def doRelease (p : Port) (line : Byte) (s : State) : Answer := ownerCommand p line releaseOnLine s

/-- RELEASE (R6). -/
def execRelease (p : Port) (tag line : Byte) (s : State) : Outcome :=
  .next (issue p (Command.of (codeByte .release) tag line []) (doRelease p line) s)

/-- HAND_OVER on one line by its owner `p` (R7). -/
def handOverOnLine (p : Port) (l : Line) (s : State) : Answer :=
  let t := latch (otherPort p) (.ownershipGiven l) (changeOwner l (some (otherPort p)) s)
  accept t (ownerBytes l t)

/-- The execution of HAND_OVER (R7). -/
def doHandOver (p : Port) (line : Byte) (s : State) : Answer := ownerCommand p line (handOverOnLine p) s

/-- HAND_OVER (R7). -/
def execHandOver (p : Port) (tag line : Byte) (s : State) : Outcome :=
  .next (issue p (Command.of (codeByte .handOver) tag line []) (doHandOver p line) s)

/-! ### READ_LINE and READ_EVENTS (R1, R2, R16) -/

/-- Ring status codes (spec 10.3). -/
def ringStatusByte : RingStatus → Byte
  | .none => 0
  | .waiting => 1
  | .burst => 2
  | .pause => 3

/-- The record's two cadence bytes: running with the index, and the current step; 0 with no cadence (R138, spec 10.3). -/
def cadenceBytes (c : CadenceEngine) : List Byte :=
  if c.kind = .none then [0, 0] else [0x80 ||| byteOf c.index.val, byteOf c.current.val]

/-- A line record, 15 bytes (R1, spec 10.3). -/
def lineRecord (l : Line) (s : State) : List Byte :=
  let x := s.line l
  ownerBytes l s ++ [supervisionByte x.sup.state, feedByte x.sup.feed, ringStatusByte (ringStatus s l)]
    ++ cadenceBytes x.cad
    ++ [boolByte x.cid.loaded.isSome, channelByte x.buf.state, agreementByte x.chan.agreement,
      classByte x.chan.requestedClass, modeByte x.chan.mode, boolByte x.buf.splicePending, byteOf x.events.length]

/-- The execution of READ_LINE (R2). -/
def doReadLine (line : Byte) (s : State) : Answer := reportCommand line lineRecord (fun _ t => t) s

/-- READ_LINE (R2). -/
def execReadLine (p : Port) (tag line : Byte) (s : State) : Outcome :=
  .next (issue p (Command.of (codeByte .readLine) tag line []) (doReadLine line) s)

/-- READ_EVENTS on one line: up to 8 of the oldest records leave (R16). -/
def eventsOnLine (l : Line) (s : State) : Answer :=
  let taken := (s.line l).events.take Config.readEventsLimit
  accept (s.modLine l fun x => { x with events := x.events.drop Config.readEventsLimit })
    (byteOf taken.length :: taken.flatMap eventBytes)

/-- The execution of READ_EVENTS (R16). -/
def doReadEvents (p : Port) (line : Byte) (s : State) : Answer := ownerCommand p line eventsOnLine s

/-- READ_EVENTS (R16). -/
def execReadEvents (p : Port) (tag line : Byte) (s : State) : Outcome :=
  .next (issue p (Command.of (codeByte .readEvents) tag line []) (doReadEvents p line) s)

/-! ### LINE_RESET (R19) -/

/-- A line's supervisor after LINE_RESET: its start for the feed mode set (R19, R96) (log 22). -/
def resetSupervisor (x : LineState) : Supervisor :=
  let v : Supervisor :=
    { discardTimings x.sup with chatter := false, retryTimer := none, restoreCheck := none, seriesOpen := false,
                                timing := HookTiming.default }
  if v.feed = .off then { v with state := .down, overcurrentTimer := none } else enterOnHook { x with sup := v }

/-- What LINE_RESET does to all that a line holds of its own, once its ringing has ended (R19, R23, R51, R76, R116, R138,
R163). -/
def resetLineState (x : LineState) : LineState :=
  { closeLine x with events := []
                     sup := resetSupervisor x
                     det := Detectors.reset
                     cad := CadenceEngine.reset
                     cid := CallerIdTx.reset
                     ctr := ChannelCounters.zero }

/-- A running ring cadence's part in the arbiter ends; `grants` is false within DEVICE_RESET (R158, R159). -/
def endRingCadence (grants : Bool) (l : Line) (s : State) : State :=
  if ringCadence (s.line l) then endCadence l (endRinging grants l s) else s

/-- The effects of LINE_RESET on a line (R19). -/
def resetLine (grants : Bool) (l : Line) (s : State) : State := (endRingCadence grants l s).modLine l resetLineState

/-- LINE_RESET on one line (R19). -/
def resetOnLine (l : Line) (s : State) : Answer := accept (resetLine true l s)

/-- The execution of LINE_RESET (R19). -/
def doLineReset (p : Port) (line : Byte) (s : State) : Answer := ownerCommand p line resetOnLine s

/-- LINE_RESET (R19). -/
def execLineReset (p : Port) (tag line : Byte) (s : State) : Outcome :=
  .next (issue p (Command.of (codeByte .lineReset) tag line []) (doLineReset p line) s)

/-! ### DEVICE_RESET (R20, R21) and POWER_ON_RESET (R22) -/

/-- Step 1 for one line: LINE_RESET's effects, the feed NORMAL, and the channel and its Depth Tracker at their starting
values (R21, R23, R79). -/
def deviceResetLine (l : Line) (s : State) : State :=
  (resetLine false l (s.modSup l fun v => { v with feed := .normal })).modLine l fun x =>
    { x with chan := MediaChannel.reset, depth := DepthTracker.reset }

/-- Step 2 for one line: a line of the sender becomes unowned (R21). -/
def dropOwner (p : Port) (x : LineState) : LineState :=
  if x.owner = some p then { x with owner := none, generation := x.generation + 1 } else x

/-- Steps 4, 6 and 7 for one port; a transaction, its assembly and a message under way go on (R21, R175). -/
def deviceResetPort (q : PortLink) : PortLink :=
  { q with fifo := [], outbound := [], sending := keepSending (fun _ => true) q, flags := Notice.resetDone.mask,
           mask := 0xFFFF, pointer := 0, hold := none, malformedMedia := 0, foreign := 0, lostCommands := 0,
           cutMessages := 0 }

/-- The part after a DEVICE_RESET accepted from port `p`, before its reply is queued (R21). -/
def resetDevice (p : Port) (s : State) : State :=
  let lines := deviceResetLine .two (deviceResetLine .one s)
  let unowned := (lines.modLine .one (dropOwner p)).modLine .two (dropOwner p)
  ((unowned.modRing fun _ => RingArbiter.reset).modPort .a deviceResetPort).modPort .b deviceResetPort

/-- The execution of DEVICE_RESET: refused while the other port owns a line (R20). -/
def doDeviceReset (p : Port) (s : State) : Answer :=
  if owns s (otherPort p) .one || owns s (otherPort p) .two then
    { state := s, result := .notOwner, data := ownerBytes .one s ++ ownerBytes .two s }
  else accept (resetDevice p s)

/-- DEVICE_RESET (R20, R21). -/
def execDeviceReset (p : Port) (tag line : Byte) (s : State) : Outcome :=
  .next (issue p (Command.of (codeByte .deviceReset) tag line []) (doDeviceReset p) s)

/-- POWER_ON_RESET (R22): everything at its power-on value; the queue of the model's own waiting commands stays. -/
def execPowerOnReset (s : State) : Outcome := .next { State.reset with pending := s.pending }

end Sys2Proof.Machine
end

