-- ==== Sys2Proof/Machine/SharedTable.lean ====
section
/-! DEFINITION. Access to the shared table from the ports (spec 07 section 7.2): TABLE_POINTER, TABLE_WRITE, TABLE_READ,
TABLE_HOLD and TABLE_END. -/

namespace Sys2Proof.Machine

/-! ### Entries (R129, R130, R134) -/

/-- The pointer after it has advanced: from 79 to 0 (R132). -/
def advancePointer (i : Fin 80) : Fin 80 := i + 1

/-- The duration range's top for an action (R129, R134). -/
def durationTop : StepAction → Nat
  | .ring => 300
  | _ => 2000

/-- Six bytes read as a cadence step and clamped; none where the action is outside the six (R134). -/
def stepOfBytes (e0 e1 e2 e3 e4 e5 : Byte) : Option CadenceStep :=
  (actionOf e0).map fun a =>
    { action := a, tone := clampFin 15 e1, duration := clamp 1 (durationTop a) (wordOf e2 e3).toNat,
      target := clampFin 63 e4, count := e5.toNat }

/-- Five bytes read as a tone pair and clamped (R134). -/
def pairOfBytes (e0 e1 e2 e3 e4 : Byte) : TonePair :=
  { f1 := min 3400 (wordOf e0 e1).toNat, f2 := min 3400 (wordOf e2 e3).toNat, attenuation := min 30 e4.toNat }

/-- A cadence step as an entry of six bytes (spec 10.3). -/
def stepBytes (e : CadenceStep) : List Byte :=
  [actionByte e.action, byteOf e.tone.val] ++ natBytes e.duration ++ [byteOf e.target.val, byteOf e.count]

/-- A tone pair as an entry of six bytes; the ignored byte is 0 (spec 10.3). -/
def pairBytes (q : TonePair) : List Byte := natBytes q.f1 ++ natBytes q.f2 ++ [byteOf q.attenuation, 0]

/-- The place of a pointer in the table: a cadence step, or a tone pair (R129, R130). -/
def entryPlace (i : Fin 80) : Fin 64 ⊕ Fin 16 :=
  if h : i.val < 64 then .inl ⟨i.val, h⟩ else .inr ⟨i.val - 64, by omega⟩

/-- The entry at a pointer, as bytes (R135). -/
def entryBytes (s : State) (i : Fin 80) : List Byte :=
  match entryPlace i with
  | .inl k => stepBytes s.steps[k]
  | .inr k => pairBytes s.pairs[k]

/-- The table with the six bytes written at a pointer; none where the action is out of range (R134). -/
def writeEntry (i : Fin 80) (e0 e1 e2 e3 e4 e5 : Byte) (s : State) : Option State :=
  match entryPlace i with
  | .inl k => (stepOfBytes e0 e1 e2 e3 e4 e5).map fun e => { s with steps := s.steps.set k e }
  | .inr k => some { s with pairs := s.pairs.set k (pairOfBytes e0 e1 e2 e3 e4) }

/-- A pointer as reply data. -/
def pointerByte (i : Fin 80) : Byte := byteOf i.val

/-! ### Commands (R133 to R136) -/

/-- The execution of TABLE_POINTER (R133). -/
def doTablePointer (p : Port) (index : Byte) (s : State) : Answer :=
  if h : index.toNat < 80 then accept (s.modPort p fun q => { q with pointer := ⟨index.toNat, h⟩ }) [index]
  else refuse .range s

/-- TABLE_POINTER (R133). -/
def execTablePointer (p : Port) (tag line index : Byte) (s : State) : Outcome :=
  .next (issue p (Command.of (codeByte .tablePointer) tag line [index]) (doTablePointer p index) s)

/-- The execution of TABLE_WRITE (R134). -/
def doTableWrite (p : Port) (e0 e1 e2 e3 e4 e5 : Byte) (s : State) : Answer :=
  let i := (s.port p).pointer
  match writeEntry i e0 e1 e2 e3 e4 e5 s with
  | some t => accept (t.modPort p fun q => { q with pointer := advancePointer i }) (pointerByte i :: entryBytes t i)
  | none => refuse .range s

/-- TABLE_WRITE (R134). -/
def execTableWrite (p : Port) (tag line e0 e1 e2 e3 e4 e5 : Byte) (s : State) : Outcome :=
  .next (issue p (Command.of (codeByte .tableWrite) tag line [e0, e1, e2, e3, e4, e5])
    (doTableWrite p e0 e1 e2 e3 e4 e5) s)

/-- The execution of TABLE_READ (R135). -/
def doTableRead (p : Port) (s : State) : Answer :=
  let i := (s.port p).pointer
  accept (if (s.port p).hold.isSome then s else s.modPort p fun q => { q with pointer := advancePointer i })
    (pointerByte i :: entryBytes s i)

/-- TABLE_READ (R135). -/
def execTableRead (p : Port) (tag line : Byte) (s : State) : Outcome :=
  .next (issue p (Command.of (codeByte .tableRead) tag line []) (doTableRead p) s)

/-- The execution of TABLE_HOLD (R136). -/
def doTableHold (p : Port) (s : State) : Answer :=
  if (s.port p).hold.isSome then refuse .wrongState s
  else accept (s.modPort p fun q => { q with hold := some q.pointer }) [pointerByte (s.port p).pointer]

/-- TABLE_HOLD (R136). -/
def execTableHold (p : Port) (tag line : Byte) (s : State) : Outcome :=
  .next (issue p (Command.of (codeByte .tableHold) tag line []) (doTableHold p) s)

/-- The execution of TABLE_END (R136). -/
def doTableEnd (p : Port) (s : State) : Answer :=
  match (s.port p).hold with
  | some i => accept (s.modPort p fun q => { q with pointer := i, hold := none }) [pointerByte i]
  | none => refuse .wrongState s

/-- TABLE_END (R136). -/
def execTableEnd (p : Port) (tag line : Byte) (s : State) : Outcome :=
  .next (issue p (Command.of (codeByte .tableEnd) tag line []) (doTableEnd p) s)

end Sys2Proof.Machine
end

