-- ==== Sys2Proof/Machine/PortLink.lean ====
section
/-! DEFINITION. The Port Link (spec 10): the judgement of a taken command (R185), transactions (R176, R178), intake
(R177, R180, R181, R53), sending (R179, R182), serial data out (R176), and the commands NOP, READ_NOTICES,
SET_NOTICE_MASK and an unknown one. -/

namespace Sys2Proof.Machine

/-! ### The port's own commands (R185, R186, R188, R189) -/

/-- The execution of a command whose code is not in the table (R185 check 1). -/
def doUnknownCommand (s : State) : Answer := refuse .unknown s

/-- UNKNOWN_COMMAND (R185). -/
def execUnknownCommand (p : Port) (code tag line : Byte) (args : List Byte) (s : State) : Outcome :=
  .next (issue p (Command.of code tag line args) doUnknownCommand s)

/-- The execution of NOP (R186). -/
def doNop (s : State) : Answer := accept s

/-- NOP (R186). -/
def execNop (p : Port) (tag line : Byte) (s : State) : Outcome :=
  .next (issue p (Command.of (codeByte .nop) tag line []) doNop s)

/-- The flags and the four port counters as reply data (R188, spec 10.3); bit 15 of the flags is 0. -/
def noticesBytes (q : PortLink) : List Byte :=
  wordBytes (q.flags.zeroExtend 16) ++ wordBytes q.malformedMedia ++ wordBytes q.foreign ++ wordBytes q.lostCommands
    ++ wordBytes q.cutMessages

/-- A port with every flag and every port counter cleared (R188). -/
def clearNotices (q : PortLink) : PortLink :=
  { q with flags := 0, malformedMedia := 0, foreign := 0, lostCommands := 0, cutMessages := 0 }

/-- The execution of READ_NOTICES (R188). -/
def doReadNotices (p : Port) (s : State) : Answer := accept (s.modPort p clearNotices) (noticesBytes (s.port p))

/-- READ_NOTICES (R188). -/
def execReadNotices (p : Port) (tag line : Byte) (s : State) : Outcome :=
  .next (issue p (Command.of (codeByte .readNotices) tag line []) (doReadNotices p) s)

/-- The execution of SET_NOTICE_MASK (R189). -/
def doSetNoticeMask (p : Port) (mask : Word) (s : State) : Answer :=
  accept (s.modPort p fun q => { q with mask := mask }) (wordBytes mask)

/-- SET_NOTICE_MASK (R189). -/
def execSetNoticeMask (p : Port) (tag line : Byte) (mask : Word) (s : State) : Outcome :=
  .next (issue p (Command.of (codeByte .setNoticeMask) tag line (wordBytes mask)) (doSetNoticeMask p mask) s)

/-! ### Executing a command as it was taken (R185) -/

/-- Whether the body length is the one the table gives; LOAD_CALLER_ID judges its own (R185 check 2). -/
def lengthFits (k : CommandCode) (c : Command) : Bool :=
  match k with
  | .loadCallerId => true
  | _ => c.length = 3 + argLength k

/-- The execution of a known command of the right length. -/
def run (k : CommandCode) (p : Port) (c : Command) (s : State) : Answer :=
  let b := c.byteAt
  let w := c.wordAt
  match k with
  | .nop => doNop s
  | .readNotices => doReadNotices p s
  | .setNoticeMask => doSetNoticeMask p (w 0) s
  | .claim => doClaim p c.line (b 0) (w 1) s
  | .release => doRelease p c.line s
  | .handOver => doHandOver p c.line s
  | .readLine => doReadLine c.line s
  | .readEvents => doReadEvents p c.line s
  | .lineReset => doLineReset p c.line s
  | .deviceReset => doDeviceReset p s
  | .setFeed => doSetFeed p c.line (b 0) s
  | .setHookTiming => doSetHookTiming p c.line (w 0) (w 2) (w 4) (w 6) (w 8) (w 10) s
  | .ringStart => doRingStart p c.line (b 0) s
  | .ringStop => doRingStop p c.line s
  | .toneStart => doToneStart p c.line (b 0) s
  | .toneStop => doToneStop p c.line s
  | .loadCallerId => doLoadCallerIdBytes p c s
  | .channelOpen => doChannelOpen p c.line (b 0) (b 1) (w 2) (w 4) (w 6) (b 8) (b 9) (b 10) (b 11) s
  | .channelClose => doChannelClose p c.line (b 0) s
  | .channelFlush => doChannelFlush p c.line s
  | .setAbility => doSetAbility p c.line (b 0) s
  | .setClass => doSetClass p c.line (b 0) s
  | .agreementRestart => doAgreementRestart p c.line s
  | .readCounters => doReadCounters c.line (b 0) s
  | .tablePointer => doTablePointer p (b 0) s
  | .tableWrite => doTableWrite p (b 0) (b 1) (b 2) (b 3) (b 4) (b 5) s
  | .tableRead => doTableRead p s
  | .tableHold => doTableHold p s
  | .tableEnd => doTableEnd p s

/-- A taken command executes: checks 1 and 2 of R185, then the command's own. -/
def perform (p : Port) (c : Command) (s : State) : Answer :=
  match commandOf c.code with
  | some k => if lengthFits k c then run k p c s else refuse .malformed s
  | none => refuse .unknown s

/-- The head of the FIFO executes, while a reply place is free; the first argument bounds the commands (R182). -/
def drainFifo (p : Port) : Nat → State → State
  | 0, s => s
  | n + 1, s =>
    match (s.port p).fifo with
    | c :: rest =>
      if replyCount (s.port p) < Config.replyPlaces then
        let t := s.modPort p fun q => { q with fifo := rest }
        drainFifo p n (answerReply p c (perform p c t))
      else s
    | [] => s

/-! ### Intake (R177, R180, R181, R53) -/

/-- Another message taken at the port that goes nowhere (R177). -/
def countForeign (p : Port) (s : State) : State := s.modPort p fun q => { q with foreign := satAdd q.foreign 1 }

/-- A transaction of a port is a WRITE. -/
def inWrite (s : State) (p : Port) : Bool := (s.port p).transaction = .write

/-- COMMAND_TAKEN (R177, R181): it joins the FIFO, and executes at once where R182 lets it (log 4). Outside a WRITE no
message is taken (log 9). -/
def execCommandTaken (p : Port) (body : List Byte) (s : State) : Outcome :=
  .next (if inWrite s p then
    match Command.ofBody body with
    | some c => issue p c (perform p c) s
    | none => countForeign p s
  else s)

/-- FOREIGN_MESSAGE (R177). Outside a WRITE no message is taken (log 9). -/
def execForeignMessage (p : Port) (_type : Byte) (_body : List Byte) (s : State) : Outcome :=
  .next (if inWrite s p then countForeign p s else s)

/-- The frame record of a media frame taken now (R51). -/
def recordFrame (x : LineState) (f : MediaFrame) : FrameRecord :=
  { sequence := f.sequence, timestamp := f.timestamp, kind := f.kind, payload := f.payload,
    arrival := x.chan.sampleCounter }

/-- An owner's frame reaches an open channel: the splice queue while a splice is pending, else classification (R53 checks
3 and 4, R57). -/
def deliverFrame (l : Line) (r : FrameRecord) (s : State) : State :=
  let x := s.line l
  if x.buf.splicePending then s.modLine l fun x => spliceAppend x r
  else
    let t := s.modLine l fun x => arrive x r
    if alertsOnArrival x r then latchOwner l (.playoutAlert l) t else t

/-- A well-formed frame is routed to its line (R53). -/
def routeFrame (p : Port) (f : MediaFrame) (s : State) : State :=
  let x := s.line f.line
  if owns s p f.line then
    if x.buf.state.isOpen then deliverFrame f.line (recordFrame x f) (examineFrame f.line f.word s)
    else s.modCtr f.line fun k => { k with closedArrivals := satAdd k.closedArrivals 1 }
  else s.modCtr f.line fun k => { k with stray := satAdd k.stray 1 }

/-- MEDIA_TAKEN (R180, R53). Outside a WRITE no message is taken (log 9). -/
def execMediaTaken (p : Port) (body : List Byte) (s : State) : Outcome :=
  .next (if inWrite s p then
    match mediaOf body with
    | some f => routeFrame p f s
    | none => s.modPort p fun q => { q with malformedMedia := satAdd q.malformedMedia 1 }
  else s)

/-! ### Transactions (R176, R178, R179) -/

/-- The look at the queue: the head, or an EMPTY message (R179) (log 18). -/
def lookAtQueue (q : PortLink) : PortLink :=
  { q with sending := if q.outbound.isEmpty then .emptyMessage else .head, sentBytes := 0 }

/-- A transaction begins with a kind byte (R176, R178, R179). -/
def beginTransaction (kind : Option Byte) (q : PortLink) : PortLink :=
  match kind with
  | none => { q with transaction := .awaitingKind }
  | some b =>
    if b = 0xA1 then { q with transaction := .write, assembly := Assembly.empty }
    else if b = 0xA2 then lookAtQueue { q with transaction := .read }
    else { q with transaction := .ignored }

/-- The bytes of the message that a READ is sending (R179); none when nothing is sent. -/
def messageUnderWay (q : PortLink) : List Byte :=
  match q.sending, q.outbound with
  | .emptyMessage, _ => emptyMessageBytes
  | .head, m :: _ => m.bytes
  | .departed m, _ => m.bytes
  | _, _ => []

/-- Byte `n` on serial data out, counted from the send position: in a READ the message under way; 0x00 while the kind byte
is clocked, throughout a WRITE and in an ignored transaction (R176, R179; log 9). -/
def dataOut (q : PortLink) (n : Nat) : Byte :=
  match q.transaction with
  | .read => (messageUnderWay q).getD (q.sentBytes + n) 0
  | _ => 0

/-- CHIP_SELECT_LOW (R176): with a transaction in progress chip select is low already (log 9). -/
def execChipSelectLow (p : Port) (kind : Option Byte) (s : State) : Outcome :=
  .next (if (s.port p).transaction = .none then s.modPort p (beginTransaction kind) else s)

/-- A byte joins the assembly: three header bytes, then body bytes, of which 256 are kept and all counted (R177). -/
def Assembly.push (a : Assembly) (b : Byte) : Assembly :=
  if a.header.length < 3 then { a with header := a.header ++ [b] }
  else if a.body.length < Config.assemblyKeeps then { a with body := a.body ++ [b], count := a.count + 1 }
  else { a with count := a.count + 1 }

/-- The body length that a complete header gives (R177). -/
def Assembly.bodyLength (a : Assembly) : Nat :=
  match a.header with
  | [_, hi, lo] => (wordOf hi lo).toNat
  | _ => 0

/-- A message is under way: a header byte has come and the last byte has not (R178). -/
def Assembly.underWay (a : Assembly) : Bool :=
  !a.header.isEmpty && (decide (a.header.length < 3) || decide (a.count < a.bodyLength))

/-- The assembly after the bytes clocked in since the last whole message (R177). -/
def assembled (q : PortLink) (clocked : List Byte) : Assembly := clocked.foldl Assembly.push q.assembly

/-- A port at rest between transactions: no assembly, no send position (R178, R179). -/
def endTransaction (q : PortLink) : PortLink :=
  { q with transaction := .none, assembly := Assembly.empty, sending := .nothing, sentBytes := 0 }

/-- Whether the end of the transaction cuts a message short (R178). -/
def cutsMessage (q : PortLink) (clocked : List Byte) : Bool :=
  decide (q.transaction = .write) && (assembled q clocked).underWay

/-- CHIP_SELECT_HIGH (R176, R178, R179). -/
def execChipSelectHigh (p : Port) (clocked : List Byte) (s : State) : Outcome :=
  let t := s.modPort p endTransaction
  .next (if cutsMessage (s.port p) clocked then
    latch p .framing (t.modPort p fun q => { q with cutMessages := satAdd q.cutMessages 1 })
  else t)

/-- The message under way is sent to its last byte: the head leaves the queue, and a reply that leaves frees a place for
the FIFO's head (R179, R182) (log 17). -/
def finishMessage (p : Port) (s : State) : State :=
  let t := s.modPort p fun q =>
    { q with sending := .nothing, outbound := if q.sending = .head then q.outbound.drop 1 else q.outbound }
  drainFifo p Config.fifoSize t

/-- MESSAGE_SENT (R179): after the message the Port Link looks at the queue again. Outside a READ nothing is sent
(log 9). -/
def execMessageSent (p : Port) (s : State) : Outcome :=
  .next (if (s.port p).transaction = .read then (finishMessage p s).modPort p lookAtQueue else s)

end Sys2Proof.Machine
end

