-- ==== Sys2Proof/Machine/Dispatch.lean ====
section
/-! DEFINITION. What each command of the block does: one arm per row of the opcode table, each one call of its meaning. -/

namespace Sys2Proof.Machine

def exec (i : Instr) (s : State) : Host.Outcome State Fault Refusal :=
  match i with
  | .powerOnReset => Sys2Proof.Machine.execPowerOnReset s
  | .chipSelectLow p kind => Sys2Proof.Machine.execChipSelectLow p kind s
  | .chipSelectHigh p clocked => Sys2Proof.Machine.execChipSelectHigh p clocked s
  | .commandTaken p body => Sys2Proof.Machine.execCommandTaken p body s
  | .foreignMessage p type body => Sys2Proof.Machine.execForeignMessage p type body s
  | .mediaTaken p body => Sys2Proof.Machine.execMediaTaken p body s
  | .messageSent p => Sys2Proof.Machine.execMessageSent p s
  | .unknownCommand p code tag line args => Sys2Proof.Machine.execUnknownCommand p code tag line args s
  | .nop p tag line => Sys2Proof.Machine.execNop p tag line s
  | .readNotices p tag line => Sys2Proof.Machine.execReadNotices p tag line s
  | .setNoticeMask p tag line mask => Sys2Proof.Machine.execSetNoticeMask p tag line mask s
  | .claim p tag line owner generation => Sys2Proof.Machine.execClaim p tag line owner generation s
  | .release p tag line => Sys2Proof.Machine.execRelease p tag line s
  | .handOver p tag line => Sys2Proof.Machine.execHandOver p tag line s
  | .readLine p tag line => Sys2Proof.Machine.execReadLine p tag line s
  | .readEvents p tag line => Sys2Proof.Machine.execReadEvents p tag line s
  | .lineReset p tag line => Sys2Proof.Machine.execLineReset p tag line s
  | .deviceReset p tag line => Sys2Proof.Machine.execDeviceReset p tag line s
  | .setFeed p tag line mode => Sys2Proof.Machine.execSetFeed p tag line mode s
  | .setHookTiming p tag line offQualify breakMin pulseMax flashMin flashMax interdigit => Sys2Proof.Machine.execSetHookTiming p tag line offQualify breakMin pulseMax flashMin flashMax interdigit s
  | .ringStart p tag line step => Sys2Proof.Machine.execRingStart p tag line step s
  | .ringStop p tag line => Sys2Proof.Machine.execRingStop p tag line s
  | .toneStart p tag line step => Sys2Proof.Machine.execToneStart p tag line step s
  | .toneStop p tag line => Sys2Proof.Machine.execToneStop p tag line s
  | .loadCallerId p tag line parts month day hour minute numberReason nameReason number name => Sys2Proof.Machine.execLoadCallerId p tag line parts month day hour minute numberReason nameReason number name s
  | .channelOpen p tag line ability present tmin tmax dataTarget kVoice kData relay triggers => Sys2Proof.Machine.execChannelOpen p tag line ability present tmin tmax dataTarget kVoice kData relay triggers s
  | .channelCloseImmediate p tag line => Sys2Proof.Machine.execChannelCloseImmediate p tag line s
  | .channelCloseDrain p tag line => Sys2Proof.Machine.execChannelCloseDrain p tag line s
  | .channelFlush p tag line => Sys2Proof.Machine.execChannelFlush p tag line s
  | .setAbility p tag line ability => Sys2Proof.Machine.execSetAbility p tag line ability s
  | .setClass p tag line mediaClass => Sys2Proof.Machine.execSetClass p tag line mediaClass s
  | .agreementRestart p tag line => Sys2Proof.Machine.execAgreementRestart p tag line s
  | .readCounters p tag line clear => Sys2Proof.Machine.execReadCounters p tag line clear s
  | .tablePointer p tag line index => Sys2Proof.Machine.execTablePointer p tag line index s
  | .tableWrite p tag line e0 e1 e2 e3 e4 e5 => Sys2Proof.Machine.execTableWrite p tag line e0 e1 e2 e3 e4 e5 s
  | .tableRead p tag line => Sys2Proof.Machine.execTableRead p tag line s
  | .tableHold p tag line => Sys2Proof.Machine.execTableHold p tag line s
  | .tableEnd p tag line => Sys2Proof.Machine.execTableEnd p tag line s
  | .uplinkBoundary l => Sys2Proof.Machine.execUplinkBoundary l s
  | .frameStart l => Sys2Proof.Machine.execFrameStart l s
  | .agreementTimeout l => Sys2Proof.Machine.execAgreementTimeout l s
  | .filteredOffHookEdge l => Sys2Proof.Machine.execFilteredOffHookEdge l s
  | .filteredOnHookEdge l => Sys2Proof.Machine.execFilteredOnHookEdge l s
  | .offHookQualified l => Sys2Proof.Machine.execOffHookQualified l s
  | .hangUp l => Sys2Proof.Machine.execHangUp l s
  | .interdigitExpiry l => Sys2Proof.Machine.execInterdigitExpiry l s
  | .overcurrentStart l => Sys2Proof.Machine.execOvercurrentStart l s
  | .overcurrentEnd l => Sys2Proof.Machine.execOvercurrentEnd l s
  | .loopFault l => Sys2Proof.Machine.execLoopFault l s
  | .faultRetryExpiry l => Sys2Proof.Machine.execFaultRetryExpiry l s
  | .feedRestored l => Sys2Proof.Machine.execFeedRestored l s
  | .detectorBlockBoundary l lineSide networkSide => Sys2Proof.Machine.execDetectorBlockBoundary l lineSide networkSide s
  | .stepTimerExpiry l => Sys2Proof.Machine.execStepTimerExpiry l s
  | .startTimerExpiry => Sys2Proof.Machine.execStartTimerExpiry s
  | .keepWarmExpiry => Sys2Proof.Machine.execKeepWarmExpiry s
  | .cidDone l => Sys2Proof.Machine.execCidDone l s
  | .hookSample l offHook => Sys2Proof.Machine.execHookSample l offHook s
  | .lineSample rx1 rx2 => Sys2Proof.Machine.execLineSample rx1 rx2 s

end Sys2Proof.Machine
end

