-- ==== Sys2Proof/Laws/State.lean ====
section
/-! SUPPORT. One lemma per field for each update of the state: changing a line, a port or the converter changes that and
nothing else. -/

namespace Sys2Proof.Machine

/-! ### Changing a line -/

@[simp] theorem line_modLine_same (s : State) (l : Line) (f : LineState → LineState) :
    (s.modLine l f).line l = f (s.line l) := by cases l <;> rfl

theorem line_modLine_other (s : State) (l m : Line) (f : LineState → LineState) (h : m ≠ l) :
    (s.modLine l f).line m = s.line m := by cases l <;> cases m <;> first | rfl | exact absurd rfl h

theorem line_modLine (s : State) (l m : Line) (f : LineState → LineState) :
    (s.modLine l f).line m = if m = l then f (s.line m) else s.line m := by cases l <;> cases m <;> rfl

@[simp] theorem modLine_ring (s : State) (l : Line) (f : LineState → LineState) :
    (s.modLine l f).ring = s.ring := by cases l <;> rfl

@[simp] theorem modLine_steps (s : State) (l : Line) (f : LineState → LineState) :
    (s.modLine l f).steps = s.steps := by cases l <;> rfl

@[simp] theorem modLine_pairs (s : State) (l : Line) (f : LineState → LineState) :
    (s.modLine l f).pairs = s.pairs := by cases l <;> rfl

@[simp] theorem modLine_tick (s : State) (l : Line) (f : LineState → LineState) :
    (s.modLine l f).tick = s.tick := by cases l <;> rfl

@[simp] theorem modLine_pending (s : State) (l : Line) (f : LineState → LineState) :
    (s.modLine l f).pending = s.pending := by cases l <;> rfl

@[simp] theorem modLine_portA (s : State) (l : Line) (f : LineState → LineState) :
    (s.modLine l f).portA = s.portA := by cases l <;> rfl

@[simp] theorem modLine_portB (s : State) (l : Line) (f : LineState → LineState) :
    (s.modLine l f).portB = s.portB := by cases l <;> rfl

@[simp] theorem port_modLine (s : State) (l : Line) (f : LineState → LineState) (p : Port) :
    (s.modLine l f).port p = s.port p := by cases l <;> cases p <;> rfl

theorem modLine_comp (s : State) (l : Line) (f g : LineState → LineState) :
    (s.modLine l f).modLine l g = s.modLine l fun x => g (f x) := by cases l <;> rfl

/-! ### Changing a port -/

@[simp] theorem port_modPort_same (s : State) (p : Port) (f : PortLink → PortLink) :
    (s.modPort p f).port p = f (s.port p) := by cases p <;> rfl

theorem port_modPort_other (s : State) (p q : Port) (f : PortLink → PortLink) (h : q ≠ p) :
    (s.modPort p f).port q = s.port q := by cases p <;> cases q <;> first | rfl | exact absurd rfl h

theorem port_modPort (s : State) (p q : Port) (f : PortLink → PortLink) :
    (s.modPort p f).port q = if q = p then f (s.port q) else s.port q := by cases p <;> cases q <;> rfl

@[simp] theorem modPort_line1 (s : State) (p : Port) (f : PortLink → PortLink) :
    (s.modPort p f).line1 = s.line1 := by cases p <;> rfl

@[simp] theorem modPort_line2 (s : State) (p : Port) (f : PortLink → PortLink) :
    (s.modPort p f).line2 = s.line2 := by cases p <;> rfl

@[simp] theorem modPort_ring (s : State) (p : Port) (f : PortLink → PortLink) :
    (s.modPort p f).ring = s.ring := by cases p <;> rfl

@[simp] theorem modPort_steps (s : State) (p : Port) (f : PortLink → PortLink) :
    (s.modPort p f).steps = s.steps := by cases p <;> rfl

@[simp] theorem modPort_pairs (s : State) (p : Port) (f : PortLink → PortLink) :
    (s.modPort p f).pairs = s.pairs := by cases p <;> rfl

@[simp] theorem modPort_tick (s : State) (p : Port) (f : PortLink → PortLink) :
    (s.modPort p f).tick = s.tick := by cases p <;> rfl

@[simp] theorem modPort_pending (s : State) (p : Port) (f : PortLink → PortLink) :
    (s.modPort p f).pending = s.pending := by cases p <;> rfl

@[simp] theorem line_modPort (s : State) (p : Port) (f : PortLink → PortLink) (l : Line) :
    (s.modPort p f).line l = s.line l := by cases p <;> cases l <;> rfl

theorem modPort_comp (s : State) (p : Port) (f g : PortLink → PortLink) :
    (s.modPort p f).modPort p g = s.modPort p fun x => g (f x) := by cases p <;> rfl

/-! ### Changing the converter -/

@[simp] theorem modRing_ring (s : State) (f : RingArbiter → RingArbiter) : (s.modRing f).ring = f s.ring := rfl

@[simp] theorem line_modRing (s : State) (f : RingArbiter → RingArbiter) (l : Line) : (s.modRing f).line l = s.line l := by
  cases l <;> rfl

@[simp] theorem port_modRing (s : State) (f : RingArbiter → RingArbiter) (p : Port) : (s.modRing f).port p = s.port p := by
  cases p <;> rfl

@[simp] theorem modRing_line1 (s : State) (f : RingArbiter → RingArbiter) : (s.modRing f).line1 = s.line1 := rfl

@[simp] theorem modRing_line2 (s : State) (f : RingArbiter → RingArbiter) : (s.modRing f).line2 = s.line2 := rfl

@[simp] theorem modRing_portA (s : State) (f : RingArbiter → RingArbiter) : (s.modRing f).portA = s.portA := rfl

@[simp] theorem modRing_portB (s : State) (f : RingArbiter → RingArbiter) : (s.modRing f).portB = s.portB := rfl

@[simp] theorem modRing_steps (s : State) (f : RingArbiter → RingArbiter) : (s.modRing f).steps = s.steps := rfl

@[simp] theorem modRing_pairs (s : State) (f : RingArbiter → RingArbiter) : (s.modRing f).pairs = s.pairs := rfl

@[simp] theorem modRing_tick (s : State) (f : RingArbiter → RingArbiter) : (s.modRing f).tick = s.tick := rfl

@[simp] theorem modRing_pending (s : State) (f : RingArbiter → RingArbiter) : (s.modRing f).pending = s.pending := rfl

/-! ### Changing one block of a line -/

@[simp] theorem line_modSup_same (s : State) (l : Line) (f : Supervisor → Supervisor) :
    (s.modSup l f).line l = { s.line l with sup := f (s.line l).sup } := by cases l <;> rfl

theorem line_modSup_other (s : State) (l m : Line) (f : Supervisor → Supervisor) (h : m ≠ l) :
    (s.modSup l f).line m = s.line m := line_modLine_other s l m _ h

@[simp] theorem port_modSup (s : State) (l : Line) (f : Supervisor → Supervisor) (p : Port) :
    (s.modSup l f).port p = s.port p := port_modLine s l _ p

@[simp] theorem modSup_ring (s : State) (l : Line) (f : Supervisor → Supervisor) : (s.modSup l f).ring = s.ring :=
  modLine_ring s l _

@[simp] theorem modSup_steps (s : State) (l : Line) (f : Supervisor → Supervisor) : (s.modSup l f).steps = s.steps :=
  modLine_steps s l _

@[simp] theorem modSup_pairs (s : State) (l : Line) (f : Supervisor → Supervisor) : (s.modSup l f).pairs = s.pairs :=
  modLine_pairs s l _

@[simp] theorem modSup_tick (s : State) (l : Line) (f : Supervisor → Supervisor) : (s.modSup l f).tick = s.tick :=
  modLine_tick s l _

@[simp] theorem modSup_pending (s : State) (l : Line) (f : Supervisor → Supervisor) : (s.modSup l f).pending = s.pending :=
  modLine_pending s l _

@[simp] theorem line_modCad_same (s : State) (l : Line) (f : CadenceEngine → CadenceEngine) :
    (s.modCad l f).line l = { s.line l with cad := f (s.line l).cad } := by cases l <;> rfl

theorem line_modCad_other (s : State) (l m : Line) (f : CadenceEngine → CadenceEngine) (h : m ≠ l) :
    (s.modCad l f).line m = s.line m := line_modLine_other s l m _ h

@[simp] theorem port_modCad (s : State) (l : Line) (f : CadenceEngine → CadenceEngine) (p : Port) :
    (s.modCad l f).port p = s.port p := port_modLine s l _ p

@[simp] theorem modCad_ring (s : State) (l : Line) (f : CadenceEngine → CadenceEngine) : (s.modCad l f).ring = s.ring :=
  modLine_ring s l _

@[simp] theorem modCad_steps (s : State) (l : Line) (f : CadenceEngine → CadenceEngine) : (s.modCad l f).steps = s.steps :=
  modLine_steps s l _

@[simp] theorem modCad_pairs (s : State) (l : Line) (f : CadenceEngine → CadenceEngine) : (s.modCad l f).pairs = s.pairs :=
  modLine_pairs s l _

@[simp] theorem modCad_tick (s : State) (l : Line) (f : CadenceEngine → CadenceEngine) : (s.modCad l f).tick = s.tick :=
  modLine_tick s l _

@[simp] theorem modCad_pending (s : State) (l : Line) (f : CadenceEngine → CadenceEngine) : (s.modCad l f).pending = s.pending :=
  modLine_pending s l _

@[simp] theorem line_modCid_same (s : State) (l : Line) (f : CallerIdTx → CallerIdTx) :
    (s.modCid l f).line l = { s.line l with cid := f (s.line l).cid } := by cases l <;> rfl

theorem line_modCid_other (s : State) (l m : Line) (f : CallerIdTx → CallerIdTx) (h : m ≠ l) :
    (s.modCid l f).line m = s.line m := line_modLine_other s l m _ h

@[simp] theorem port_modCid (s : State) (l : Line) (f : CallerIdTx → CallerIdTx) (p : Port) :
    (s.modCid l f).port p = s.port p := port_modLine s l _ p

@[simp] theorem modCid_ring (s : State) (l : Line) (f : CallerIdTx → CallerIdTx) : (s.modCid l f).ring = s.ring :=
  modLine_ring s l _

@[simp] theorem modCid_steps (s : State) (l : Line) (f : CallerIdTx → CallerIdTx) : (s.modCid l f).steps = s.steps :=
  modLine_steps s l _

@[simp] theorem modCid_pairs (s : State) (l : Line) (f : CallerIdTx → CallerIdTx) : (s.modCid l f).pairs = s.pairs :=
  modLine_pairs s l _

@[simp] theorem modCid_tick (s : State) (l : Line) (f : CallerIdTx → CallerIdTx) : (s.modCid l f).tick = s.tick :=
  modLine_tick s l _

@[simp] theorem modCid_pending (s : State) (l : Line) (f : CallerIdTx → CallerIdTx) : (s.modCid l f).pending = s.pending :=
  modLine_pending s l _

@[simp] theorem line_modChan_same (s : State) (l : Line) (f : MediaChannel → MediaChannel) :
    (s.modChan l f).line l = { s.line l with chan := f (s.line l).chan } := by cases l <;> rfl

theorem line_modChan_other (s : State) (l m : Line) (f : MediaChannel → MediaChannel) (h : m ≠ l) :
    (s.modChan l f).line m = s.line m := line_modLine_other s l m _ h

@[simp] theorem port_modChan (s : State) (l : Line) (f : MediaChannel → MediaChannel) (p : Port) :
    (s.modChan l f).port p = s.port p := port_modLine s l _ p

@[simp] theorem modChan_ring (s : State) (l : Line) (f : MediaChannel → MediaChannel) : (s.modChan l f).ring = s.ring :=
  modLine_ring s l _

@[simp] theorem modChan_steps (s : State) (l : Line) (f : MediaChannel → MediaChannel) : (s.modChan l f).steps = s.steps :=
  modLine_steps s l _

@[simp] theorem modChan_pairs (s : State) (l : Line) (f : MediaChannel → MediaChannel) : (s.modChan l f).pairs = s.pairs :=
  modLine_pairs s l _

@[simp] theorem modChan_tick (s : State) (l : Line) (f : MediaChannel → MediaChannel) : (s.modChan l f).tick = s.tick :=
  modLine_tick s l _

@[simp] theorem modChan_pending (s : State) (l : Line) (f : MediaChannel → MediaChannel) : (s.modChan l f).pending = s.pending :=
  modLine_pending s l _

@[simp] theorem line_modBuf_same (s : State) (l : Line) (f : PlayoutBuffer → PlayoutBuffer) :
    (s.modBuf l f).line l = { s.line l with buf := f (s.line l).buf } := by cases l <;> rfl

theorem line_modBuf_other (s : State) (l m : Line) (f : PlayoutBuffer → PlayoutBuffer) (h : m ≠ l) :
    (s.modBuf l f).line m = s.line m := line_modLine_other s l m _ h

@[simp] theorem port_modBuf (s : State) (l : Line) (f : PlayoutBuffer → PlayoutBuffer) (p : Port) :
    (s.modBuf l f).port p = s.port p := port_modLine s l _ p

@[simp] theorem modBuf_ring (s : State) (l : Line) (f : PlayoutBuffer → PlayoutBuffer) : (s.modBuf l f).ring = s.ring :=
  modLine_ring s l _

@[simp] theorem modBuf_steps (s : State) (l : Line) (f : PlayoutBuffer → PlayoutBuffer) : (s.modBuf l f).steps = s.steps :=
  modLine_steps s l _

@[simp] theorem modBuf_pairs (s : State) (l : Line) (f : PlayoutBuffer → PlayoutBuffer) : (s.modBuf l f).pairs = s.pairs :=
  modLine_pairs s l _

@[simp] theorem modBuf_tick (s : State) (l : Line) (f : PlayoutBuffer → PlayoutBuffer) : (s.modBuf l f).tick = s.tick :=
  modLine_tick s l _

@[simp] theorem modBuf_pending (s : State) (l : Line) (f : PlayoutBuffer → PlayoutBuffer) : (s.modBuf l f).pending = s.pending :=
  modLine_pending s l _

@[simp] theorem line_modDet_same (s : State) (l : Line) (f : Detectors → Detectors) :
    (s.modDet l f).line l = { s.line l with det := f (s.line l).det } := by cases l <;> rfl

theorem line_modDet_other (s : State) (l m : Line) (f : Detectors → Detectors) (h : m ≠ l) :
    (s.modDet l f).line m = s.line m := line_modLine_other s l m _ h

@[simp] theorem port_modDet (s : State) (l : Line) (f : Detectors → Detectors) (p : Port) :
    (s.modDet l f).port p = s.port p := port_modLine s l _ p

@[simp] theorem modDet_ring (s : State) (l : Line) (f : Detectors → Detectors) : (s.modDet l f).ring = s.ring :=
  modLine_ring s l _

@[simp] theorem modDet_steps (s : State) (l : Line) (f : Detectors → Detectors) : (s.modDet l f).steps = s.steps :=
  modLine_steps s l _

@[simp] theorem modDet_pairs (s : State) (l : Line) (f : Detectors → Detectors) : (s.modDet l f).pairs = s.pairs :=
  modLine_pairs s l _

@[simp] theorem modDet_tick (s : State) (l : Line) (f : Detectors → Detectors) : (s.modDet l f).tick = s.tick :=
  modLine_tick s l _

@[simp] theorem modDet_pending (s : State) (l : Line) (f : Detectors → Detectors) : (s.modDet l f).pending = s.pending :=
  modLine_pending s l _

@[simp] theorem line_modCtr_same (s : State) (l : Line) (f : ChannelCounters → ChannelCounters) :
    (s.modCtr l f).line l = { s.line l with ctr := f (s.line l).ctr } := by cases l <;> rfl

theorem line_modCtr_other (s : State) (l m : Line) (f : ChannelCounters → ChannelCounters) (h : m ≠ l) :
    (s.modCtr l f).line m = s.line m := line_modLine_other s l m _ h

@[simp] theorem port_modCtr (s : State) (l : Line) (f : ChannelCounters → ChannelCounters) (p : Port) :
    (s.modCtr l f).port p = s.port p := port_modLine s l _ p

@[simp] theorem modCtr_ring (s : State) (l : Line) (f : ChannelCounters → ChannelCounters) : (s.modCtr l f).ring = s.ring :=
  modLine_ring s l _

@[simp] theorem modCtr_steps (s : State) (l : Line) (f : ChannelCounters → ChannelCounters) : (s.modCtr l f).steps = s.steps :=
  modLine_steps s l _

@[simp] theorem modCtr_pairs (s : State) (l : Line) (f : ChannelCounters → ChannelCounters) : (s.modCtr l f).pairs = s.pairs :=
  modLine_pairs s l _

@[simp] theorem modCtr_tick (s : State) (l : Line) (f : ChannelCounters → ChannelCounters) : (s.modCtr l f).tick = s.tick :=
  modLine_tick s l _

@[simp] theorem modCtr_pending (s : State) (l : Line) (f : ChannelCounters → ChannelCounters) : (s.modCtr l f).pending = s.pending :=
  modLine_pending s l _

end Sys2Proof.Machine
end

