-- ==== Sys2Proof/Laws/Ops.lean ====
section
/-! SUPPORT. For each shared operation, the lemma that says once what it can do: byte order, saturating counters, notices,
events, the issue of a command, line addressing, the shared table and the slots. -/

namespace Sys2Proof.Machine

/-! ### Byte order and counters -/

@[simp] theorem wordOf_bytes (w : Word) : wordOf (hiByte w) (loByte w) = w := by
  apply BitVec.eq_of_getLsbD_eq
  intro i hi
  simp only [wordOf, hiByte, loByte, BitVec.getLsbD_append, BitVec.getLsbD_extractLsb']
  by_cases h : i < 8
  · simp [h]
  · have h8 : i - 8 < 8 := by omega
    simp only [h, ite_false, decide_false, h8, decide_true, Bool.true_and]
    congr 1; omega

@[simp] theorem hiByte_wordOf (a b : Byte) : hiByte (wordOf a b) = a := by
  apply BitVec.eq_of_getLsbD_eq
  intro i hi
  simp only [wordOf, hiByte, BitVec.getLsbD_append, BitVec.getLsbD_extractLsb']
  simp [hi]

@[simp] theorem loByte_wordOf (a b : Byte) : loByte (wordOf a b) = b := by
  apply BitVec.eq_of_getLsbD_eq
  intro i hi
  simp only [wordOf, loByte, BitVec.getLsbD_append, BitVec.getLsbD_extractLsb']
  simp [hi]

theorem satAdd_toNat (c : Word) (n : Nat) : (satAdd c n).toNat = min 65535 (c.toNat + n) := by
  simp [satAdd]

@[simp] theorem satAdd_zero (c : Word) : satAdd c 0 = c := by
  apply BitVec.eq_of_toNat_eq
  rw [satAdd_toNat]
  have := c.isLt
  omega

theorem le_clamp (low high n : Nat) : low ≤ clamp low high n := Nat.le_max_left _ _

theorem clamp_le (low high n : Nat) (h : low ≤ high) : clamp low high n ≤ high := by
  unfold clamp; omega

theorem clamp_inside (low high n : Nat) (h1 : low ≤ n) (h2 : n ≤ high) : clamp low high n = n := by
  unfold clamp; omega

/-- Every command of the table is found by its code. -/
@[simp] theorem commandOf_codeByte (k : CommandCode) : commandOf (codeByte k) = some k := by
  cases k <;> decide

/-! ### Notices -/

@[simp] theorem line_latch (p : Port) (n : Notice) (s : State) (l : Line) : (latch p n s).line l = s.line l := by
  simp [latch]

@[simp] theorem latch_ring (p : Port) (n : Notice) (s : State) : (latch p n s).ring = s.ring := by simp [latch]

@[simp] theorem latch_steps (p : Port) (n : Notice) (s : State) : (latch p n s).steps = s.steps := by simp [latch]

@[simp] theorem latch_pairs (p : Port) (n : Notice) (s : State) : (latch p n s).pairs = s.pairs := by simp [latch]

@[simp] theorem latch_tick (p : Port) (n : Notice) (s : State) : (latch p n s).tick = s.tick := by simp [latch]

@[simp] theorem latch_pending (p : Port) (n : Notice) (s : State) : (latch p n s).pending = s.pending := by simp [latch]

/-- Latching changes the flags of one port and nothing else of any port. -/
theorem port_latch (p q : Port) (n : Notice) (s : State) :
    (latch p n s).port q = if q = p then { s.port q with flags := (s.port q).flags ||| n.mask } else s.port q := by
  simp [latch, port_modPort]

theorem notice_bit_lt (n : Notice) : n.bit < 15 := by cases n <;> (try rename_i l; cases l) <;> decide

theorem notice_bit_injective (n m : Notice) (h : n ≠ m) : n.bit ≠ m.bit := by
  revert h
  cases n <;> cases m <;> (try rename_i a b; cases a <;> cases b) <;> (try rename_i a; cases a) <;> simp [Notice.bit]

/-- A latched notice is latched. -/
@[simp] theorem isLatched_latch (p : Port) (n : Notice) (s : State) : isLatched ((latch p n s).port p).flags n = true := by
  simp [latch, isLatched, Notice.mask, notice_bit_lt n]

/-- Latching one notice leaves every other as it was. -/
theorem isLatched_latch_other (p : Port) (n m : Notice) (h : m ≠ n) (s : State) :
    isLatched ((latch p n s).port p).flags m = isLatched (s.port p).flags m := by
  simp [latch, isLatched, Notice.mask, BitVec.getLsbD_twoPow, (notice_bit_injective m n h).symm]

/-- Latching at the owner is latching at a port, or nothing. -/
theorem latchOwner_cases (l : Line) (n : Notice) (s : State) :
    ((s.line l).owner = none ∧ latchOwner l n s = s) ∨ ∃ p, (s.line l).owner = some p ∧ latchOwner l n s = latch p n s := by
  unfold latchOwner
  cases (s.line l).owner with
  | none => exact .inl ⟨rfl, rfl⟩
  | some p => exact .inr ⟨p, rfl, rfl⟩

@[simp] theorem line_latchOwner (l m : Line) (n : Notice) (s : State) : (latchOwner l n s).line m = s.line m := by
  unfold latchOwner; split <;> simp

@[simp] theorem latchOwner_ring (l : Line) (n : Notice) (s : State) : (latchOwner l n s).ring = s.ring := by
  unfold latchOwner; split <;> simp

@[simp] theorem latchOwner_steps (l : Line) (n : Notice) (s : State) : (latchOwner l n s).steps = s.steps := by
  unfold latchOwner; split <;> simp

@[simp] theorem latchOwner_pairs (l : Line) (n : Notice) (s : State) : (latchOwner l n s).pairs = s.pairs := by
  unfold latchOwner; split <;> simp

/-! ### Events -/

theorem markOverrun_length (q : List EventRecord) : (markOverrun q).length = q.length := by
  fun_induction markOverrun q <;> simp_all

/-- A lost event marks the newest record and changes no other (R15). -/
@[simp] theorem markOverrun_concat (q : List EventRecord) (r : EventRecord) :
    markOverrun (q ++ [r]) = q ++ [{ r with overrun := true }] := by
  induction q with
  | nil => rfl
  | cons e q ih =>
    cases q with
    | nil => rfl
    | cons f q => simpa [markOverrun] using ih

/-- An event queue never grows past 16 records (R15). -/
theorem appendEvent_length (q : List EventRecord) (e : EventRecord) (h : q.length ≤ Config.eventQueueSize) :
    (appendEvent q e).length ≤ Config.eventQueueSize := by
  unfold appendEvent
  split
  · simp; omega
  · simpa [markOverrun_length] using h

@[simp] theorem line_noticeEvent (l m : Line) (s : State) : (noticeEvent l s).line m = s.line m := by
  unfold noticeEvent; split <;> simp

@[simp] theorem noticeEvent_ring (l : Line) (s : State) : (noticeEvent l s).ring = s.ring := by
  unfold noticeEvent; split <;> simp

/-- Storing an event changes the event queue of its line and no other field of any line. -/
theorem line_storeEvent (l m : Line) (e : EventRecord) (s : State) :
    (storeEvent l e s).line m = if m = l then { s.line m with events := appendEvent (s.line m).events e } else s.line m := by
  simp [storeEvent, line_modLine]

@[simp] theorem storeEvent_ring (l : Line) (e : EventRecord) (s : State) : (storeEvent l e s).ring = s.ring := by
  simp [storeEvent]

/-! ### The issue of a command -/

/-- A command that may execute at once does, and its reply joins the tail of the queue (R182, R186). -/
theorem issue_at_once (p : Port) (c : Command) (act : State → Answer) (s : State) (hf : (s.port p).fifo = [])
    (hr : replyCount (s.port p) < Config.replyPlaces) : issue p c act s = answerReply p c (act s) := by
  simp [issue, executesAtOnce, hf, hr]

/-- A command that may not execute joins the FIFO, or is lost when four wait (R181). -/
theorem issue_waits (p : Port) (c : Command) (act : State → Answer) (s : State) (h : executesAtOnce s p = false) :
    issue p c act s = enqueueCommand p c s := by
  simp [issue, h]

/-- What answers a command naming one line that its port owns. -/
theorem ownerCommand_owned (p : Port) (field : Byte) (l : Line) (act : Line → State → Answer) (s : State)
    (hl : lineOf field = some l) (ho : (s.line l).owner = some p) : ownerCommand p field act s = act l s := by
  simp [ownerCommand, hl, owns, ho]

/-- What answers a command naming one line that its port does not own. -/
theorem ownerCommand_notOwned (p : Port) (field : Byte) (l : Line) (act : Line → State → Answer) (s : State)
    (hl : lineOf field = some l) (ho : (s.line l).owner ≠ some p) : ownerCommand p field act s = refuse .notOwner s := by
  simp [ownerCommand, hl, owns, ho]

theorem lineOf_lineByte (l : Line) : lineOf (lineByte l) = some l := by cases l <;> rfl

@[simp] theorem line_enqueueMessage (p : Port) (m : Message) (s : State) (l : Line) :
    (enqueueMessage p m s).line l = s.line l := by simp [enqueueMessage]

theorem port_enqueueMessage (p q : Port) (m : Message) (s : State) :
    (enqueueMessage p m s).port q = if q = p then { s.port q with outbound := (s.port q).outbound ++ [m] } else s.port q := by
  simp [enqueueMessage, port_modPort]

/-! ### The shared table -/

theorem entryPlace_injective (i j : Fin 80) (h : entryPlace i = entryPlace j) : i = j := by
  unfold entryPlace at h
  split at h <;> split at h <;> simp_all [Fin.ext_iff]
  omega

/-- A write of one entry leaves every other entry as it was (R134). -/
theorem entryBytes_writeEntry_other (i j : Fin 80) (e0 e1 e2 e3 e4 e5 : Byte) (s t : State) (hij : j ≠ i)
    (h : writeEntry i e0 e1 e2 e3 e4 e5 s = some t) : entryBytes t j = entryBytes s j := by
  have hne : entryPlace i ≠ entryPlace j := fun e => hij (entryPlace_injective i j e).symm
  unfold writeEntry at h
  unfold entryBytes
  cases hi : entryPlace i with
  | inl k =>
    rw [hi] at h hne
    simp only [Option.map_eq_some_iff] at h
    obtain ⟨e, -, rfl⟩ := h
    cases hj : entryPlace j with
    | inl k' =>
      have : k ≠ k' := fun e => hne (by rw [hj, e])
      simp [Vector.getElem_set, Fin.ext_iff] at this ⊢
      simp [this]
    | inr k' => rfl
  | inr k =>
    rw [hi] at h hne
    simp only [Option.some.injEq] at h
    subst h
    cases hj : entryPlace j with
    | inl k' => rfl
    | inr k' =>
      have : k ≠ k' := fun e => hne (by rw [hj, e])
      simp [Vector.getElem_set, Fin.ext_iff] at this ⊢
      simp [this]

/-! ### The slots of a Playout Buffer -/

/-- A stored frame is found under its sequence number (R52). -/
theorem stored_storeSlot_same (slots : Slots) (r : FrameRecord) : stored? (storeSlot slots r) r.sequence = some r := by
  simp [stored?, storeSlot]

/-- Storing a frame leaves the frames of every other slot as they were (R51). -/
theorem stored_storeSlot_other (slots : Slots) (r : FrameRecord) (q : Word) (h : slotOf q ≠ slotOf r.sequence) :
    stored? (storeSlot slots r) q = stored? slots q := by
  simp only [stored?, storeSlot]
  have : (slotOf r.sequence).val ≠ (slotOf q).val := fun e => h (Fin.ext e.symm)
  simp [this]

theorem stored_empty (q : Word) : stored? Slots.empty q = none := by
  simp [stored?, Slots.empty]

end Sys2Proof.Machine
end

