-- ==== Sys2Proof/Safety.lean ====
section
/-! DEFINITION. What a safe state of the part is: the invariants that the spec's rules state of the whole machine, in the terms
the claims use. -/

namespace Sys2Proof.Safety

open Sys2Proof.Machine

/-- R183, R182: at most 8 replies and at most 24 media frames in an outbound queue; R181: at most 4 commands in a FIFO. -/
def PortBounded (q : PortLink) : Prop :=
  replyCount q ≤ Config.replyPlaces ∧ mediaCount q ≤ Config.mediaPlaces ∧ q.fifo.length ≤ Config.fifoSize

/-- R182: a FIFO holds commands only while 8 replies wait to be read. -/
def FifoWaits (q : PortLink) : Prop := q.fifo ≠ [] → replyCount q = Config.replyPlaces

/-- R15: a line's event queue holds at most 16 records. -/
def EventsBounded (x : LineState) : Prop := x.events.length ≤ Config.eventQueueSize

/-- R86: S stays within 0 to 81920 sixteenths of a sample and J16 within 0 to 65536. -/
def DepthBounded (x : LineState) : Prop :=
  0 ≤ x.depth.smoothed ∧ x.depth.smoothed ≤ Config.depthTop ∧ 0 ≤ x.depth.jitter ∧ x.depth.jitter ≤ 65536

/-- R70: a splice queue holds at most 8 frames and is empty whenever its line's splice state is NONE. -/
def SpliceBounded (x : LineState) : Prop :=
  x.buf.spliceQueue.length ≤ Config.spliceQueueSize ∧ (x.buf.splicePending = false → x.buf.spliceQueue = [])

/-- R52: while the playout point is unset no frame is stored; else each stored frame stands in its own slot at a distance of
0 to 63. -/
def SlotsWindowed (b : PlayoutBuffer) : Prop :=
  ∀ i : Fin 64, ∀ r, b.slots[i] = some r →
    slotOf r.sequence = i ∧ ∃ p, b.playoutPoint = some p ∧ 0 ≤ distance r.sequence p ∧ distance r.sequence p ≤ 63

/-- R103: ringing is applied only to a line that is ON_HOOK and fed NORMAL or REVERSED. -/
def RingingSafe (s : State) : Prop :=
  ∀ l, loopSupply s l = .ringing → (s.line l).sup.state = .onHook ∧ fullFeed (s.line l).sup.feed = true

/-- R35, R110: what the ranges of a channel's parameters promise of a target depth. -/
def ParamsInRange (q : ChannelParams) : Prop :=
  80 ≤ q.tmin ∧ q.tmin ≤ q.tmax ∧ q.tmax ≤ 4800 ∧ 400 ≤ q.dataTarget ∧ q.dataTarget ≤ 4800

end Sys2Proof.Safety
end

