-- ==== Sys2Proof/WellFormed.lean ====
section
/-! DEFINITION. Which commands of the table stand for something that can reach the block: messages no longer than a header
can say (R177), a COMMAND of 3 bytes or more, a message that is foreign, a code that is unknown, a cut message that is not
whole (R178), and a caller-ID record whose lengths fit their bytes. -/

namespace Sys2Proof

/-- A body length that a message header can give (R177). -/
def fitsMessage (n : Nat) : Bool := decide (n ≤ 65535)

/-- A message that goes neither to the FIFO nor to media intake (R177). -/
def isForeign (type : Byte) (body : List Byte) : Bool :=
  if type = 0x30 then false else if type = 0x10 then decide (body.length < 3) else true

/-- The bytes clocked in at the end of a transaction: none, or the first part of a message (R178; log 9). -/
def isPartial (clocked : List Byte) : Bool :=
  clocked.isEmpty || (clocked.foldl Machine.Assembly.push Machine.Assembly.empty).underWay

/-- The checks on a command of the table. -/
def Instr.wellFormed : Instr → Bool
  | .chipSelectHigh _ clocked => isPartial clocked
  | .commandTaken _ body => decide (3 ≤ body.length) && fitsMessage body.length
  | .foreignMessage _ type body => isForeign type body && fitsMessage body.length
  | .mediaTaken _ body => fitsMessage body.length
  | .unknownCommand _ code _ _ args => (Machine.commandOf code).isNone && fitsMessage (3 + args.length)
  | .loadCallerId _ _ _ _ _ _ _ _ _ _ number name => decide (number.length ≤ 255) && decide (name.length ≤ 255)
  | .powerOnReset => true
  | .chipSelectLow _ _ => true
  | .messageSent _ => true
  | .nop _ _ _ => true
  | .readNotices _ _ _ => true
  | .setNoticeMask _ _ _ _ => true
  | .claim _ _ _ _ _ => true
  | .release _ _ _ => true
  | .handOver _ _ _ => true
  | .readLine _ _ _ => true
  | .readEvents _ _ _ => true
  | .lineReset _ _ _ => true
  | .deviceReset _ _ _ => true
  | .setFeed _ _ _ _ => true
  | .setHookTiming _ _ _ _ _ _ _ _ _ => true
  | .ringStart _ _ _ _ => true
  | .ringStop _ _ _ => true
  | .toneStart _ _ _ _ => true
  | .toneStop _ _ _ => true
  | .channelOpen _ _ _ _ _ _ _ _ _ _ _ _ => true
  | .channelCloseImmediate _ _ _ => true
  | .channelCloseDrain _ _ _ => true
  | .channelFlush _ _ _ => true
  | .setAbility _ _ _ _ => true
  | .setClass _ _ _ _ => true
  | .agreementRestart _ _ _ => true
  | .readCounters _ _ _ _ => true
  | .tablePointer _ _ _ _ => true
  | .tableWrite _ _ _ _ _ _ _ _ _ => true
  | .tableRead _ _ _ => true
  | .tableHold _ _ _ => true
  | .tableEnd _ _ _ => true
  | .uplinkBoundary _ => true
  | .frameStart _ => true
  | .agreementTimeout _ => true
  | .filteredOffHookEdge _ => true
  | .filteredOnHookEdge _ => true
  | .offHookQualified _ => true
  | .hangUp _ => true
  | .interdigitExpiry _ => true
  | .overcurrentStart _ => true
  | .overcurrentEnd _ => true
  | .loopFault _ => true
  | .faultRetryExpiry _ => true
  | .feedRestored _ => true
  | .detectorBlockBoundary _ _ _ => true
  | .stepTimerExpiry _ => true
  | .startTimerExpiry => true
  | .keepWarmExpiry => true
  | .cidDone _ => true
  | .hookSample _ _ => true
  | .lineSample _ _ => true

end Sys2Proof
end

