-- ==== Sys2Proof/Certificates/Slice0/Obligations.lean ====
section
/-! DEFINITION. The statements about the model, from the numbered rules of the spec, with the few words they are said in. -/

open Sys2Proof Sys2Proof.Machine Sys2Proof.Safety

/-! ### Words of the statements -/

namespace Sys2Proof.Claim

/-- A command taken at port `p` executes at once: none waits before it and a reply place is free (R182). -/
def Free (s : State) (p : Port) : Prop := (s.port p).fifo = [] ∧ replyCount (s.port p) < 8

/-- `s` with a reply at the tail of port `p`'s outbound queue. -/
def replied (p : Port) (tag code : Byte) (r : Result) (data : List Byte) (s : State) : State :=
  s.modPort p fun q => { q with outbound := q.outbound ++ [.reply { tag := tag, code := code, result := r, data := data }] }

/-- The codes of the command table (spec 10.3). -/
def tableCodes : List Byte :=
  [0x01, 0x02, 0x03, 0x10, 0x11, 0x12, 0x13, 0x14, 0x15, 0x16, 0x20, 0x21, 0x30, 0x31, 0x32, 0x33, 0x34, 0x40, 0x41, 0x42,
    0x43, 0x44, 0x45, 0x46, 0x50, 0x51, 0x52, 0x53, 0x54]

/-- A command as it waits in a FIFO: the assembly keeps 256 body bytes, three of them code, tag and line (R177). -/
def waiting (code tag line : Byte) (args : List Byte) : Command :=
  { code := code, tag := tag, line := line, args := args.take 253, length := args.length + 3 }

/-- Outside line `l` and the two ports nothing differs. -/
def ElseSame (l : Line) (s u : State) : Prop :=
  u.line (otherLine l) = s.line (otherLine l) ∧ u.ring = s.ring ∧ u.steps = s.steps ∧ u.pairs = s.pairs ∧ u.tick = s.tick
    ∧ u.pending = s.pending

/-- Outside line `l` nothing differs. -/
def OnlyLine (l : Line) (s u : State) : Prop := ElseSame l s u ∧ u.portA = s.portA ∧ u.portB = s.portB

/-- Every part of a port but its outbound queue, its send position and its flags is the same. -/
def PortKept (q r : PortLink) : Prop :=
  r.transaction = q.transaction ∧ r.assembly = q.assembly ∧ r.fifo = q.fifo ∧ r.mask = q.mask ∧ r.pointer = q.pointer
    ∧ r.hold = q.hold ∧ r.malformedMedia = q.malformedMedia ∧ r.foreign = q.foreign ∧ r.lostCommands = q.lostCommands
    ∧ r.cutMessages = q.cutMessages

/-- Every part of a port but its flags is the same. -/
def OnlyFlags (q r : PortLink) : Prop :=
  PortKept q r ∧ r.outbound = q.outbound ∧ r.sending = q.sending ∧ r.sentBytes = q.sentBytes

/-- The other fields of a line are those of `x`: what the Line Table, the clock and the pins hold. -/
def TableKept (x y : LineState) : Prop :=
  y.owner = x.owner ∧ y.generation = x.generation ∧ y.ms = x.ms ∧ y.blockDue = x.blockDue ∧ y.codecOut = x.codecOut
    ∧ y.lineHeard = x.lineHeard ∧ y.netHeard = x.netHeard

/-- What the channel, its buffer, its Depth Tracker and its counters hold is the same. -/
def CallKept (x y : LineState) : Prop := y.chan = x.chan ∧ y.buf = x.buf ∧ y.depth = x.depth ∧ y.ctr = x.ctr

/-- A command that needs ownership, LOAD_CALLER_ID with a record of the right form among them: its port, tag, line field and
code (R17). -/
def ownerRow : Instr → Option (Port × Byte × Byte × Byte)
  | .release p tag line => some (p, tag, line, 0x11)
  | .handOver p tag line => some (p, tag, line, 0x12)
  | .readEvents p tag line => some (p, tag, line, 0x14)
  | .lineReset p tag line => some (p, tag, line, 0x15)
  | .setFeed p tag line _ => some (p, tag, line, 0x20)
  | .setHookTiming p tag line _ _ _ _ _ _ => some (p, tag, line, 0x21)
  | .ringStart p tag line _ => some (p, tag, line, 0x30)
  | .ringStop p tag line => some (p, tag, line, 0x31)
  | .toneStart p tag line _ => some (p, tag, line, 0x32)
  | .toneStop p tag line => some (p, tag, line, 0x33)
  | .loadCallerId p tag line parts _ _ _ _ _ _ number name =>
    if 12 + number.length + name.length ≤ 256 ∧ name.length ≤ 32 ∧ (parts.getLsbD 1 = true → number = [])
        ∧ (parts.getLsbD 2 = true → name = []) then some (p, tag, line, 0x34) else none
  | .channelOpen p tag line _ _ _ _ _ _ _ _ _ => some (p, tag, line, 0x40)
  | .channelCloseImmediate p tag line => some (p, tag, line, 0x41)
  | .channelCloseDrain p tag line => some (p, tag, line, 0x41)
  | .channelFlush p tag line => some (p, tag, line, 0x42)
  | .setAbility p tag line _ => some (p, tag, line, 0x43)
  | .setClass p tag line _ => some (p, tag, line, 0x44)
  | .agreementRestart p tag line => some (p, tag, line, 0x45)
  | _ => none

/-- The same command with another line field. -/
def withLine (line : Byte) : Instr → Instr
  | .release p tag _ => .release p tag line
  | .handOver p tag _ => .handOver p tag line
  | .readEvents p tag _ => .readEvents p tag line
  | .lineReset p tag _ => .lineReset p tag line
  | .setFeed p tag _ mode => .setFeed p tag line mode
  | .setHookTiming p tag _ a b c d e f => .setHookTiming p tag line a b c d e f
  | .ringStart p tag _ step => .ringStart p tag line step
  | .ringStop p tag _ => .ringStop p tag line
  | .toneStart p tag _ step => .toneStart p tag line step
  | .toneStop p tag _ => .toneStop p tag line
  | .loadCallerId p tag _ parts a b c d e f number name => .loadCallerId p tag line parts a b c d e f number name
  | .channelOpen p tag _ ability present a b c d e f g => .channelOpen p tag line ability present a b c d e f g
  | .channelCloseImmediate p tag _ => .channelCloseImmediate p tag line
  | .channelCloseDrain p tag _ => .channelCloseDrain p tag line
  | .channelFlush p tag _ => .channelFlush p tag line
  | .setAbility p tag _ ability => .setAbility p tag line ability
  | .setClass p tag _ mediaClass => .setClass p tag line mediaClass
  | .agreementRestart p tag _ => .agreementRestart p tag line
  | i => i

/-- A row that changes the owner of line `l` to `new`, with the code of its reply (R4, R6, R7). -/
def ChangesOwner (c : Instr) (s : State) (p : Port) (tag : Byte) (l : Line) (new : Option Port) (code : Byte) : Prop :=
  (c = .claim p tag (lineByte l) (ownerByte (s.line l).owner) (s.line l).generation ∧ (s.line l).owner ≠ some p
      ∧ new = some p ∧ code = 0x10)
    ∨ (c = .release p tag (lineByte l) ∧ (s.line l).owner = some p ∧ new = none ∧ code = 0x11)
    ∨ (c = .handOver p tag (lineByte l) ∧ (s.line l).owner = some p ∧ new = some (otherPort p) ∧ code = 0x12)

/-- The reply data of an owner change: CLAIM and HAND_OVER give owner and generation, RELEASE the generation. -/
def changeData (code : Byte) (new : Option Port) (g : Word) : List Byte :=
  if code = 0x11 then [hiByte g, loByte g] else [ownerByte new, hiByte g, loByte g]

/-- What the bytes clocked in since the last whole message hold: the first part of a message and not all of it (R178). -/
def CutsShort (clocked : List Byte) : Prop :=
  clocked ≠ [] ∧ (clocked.length < 3
    ∨ ∃ type hi lo body, clocked = type :: hi :: lo :: body ∧ body.length < hi.toNat * 256 + lo.toNat)

/-- Replies and media of both ports are within R181 to R183, and each media frame belongs to a line its port owns. -/
def QueuesSound (s : State) : Prop :=
  ∀ p, PortBounded (s.port p) ∧ FifoWaits (s.port p)
    ∧ ∀ f, Message.media f ∈ (s.port p).outbound → (s.line f.line).owner = some p

/-- What keeps ringing safe: a line with a ring cadence is ON_HOOK and fully fed, and only such a line is driven, waits or
sends caller-ID (R103, R151, R152, R169). -/
def RingSound (s : State) : Prop :=
  s.ring.waitList.Nodup ∧ ∀ l,
    ((s.line l).cad.kind = .ring → (s.line l).sup.state = .onHook ∧ fullFeed (s.line l).sup.feed = true)
    ∧ ((s.line l).sup.feed = .off → (s.line l).sup.state = .down)
    ∧ ((s.line l).sup.retryTimer.isSome = true → (s.line l).sup.feed ≠ .off)
    ∧ (s.ring.converter = .driving l → (s.line l).cad.kind = .ring ∧ l ∉ s.ring.waitList)
    ∧ (l ∈ s.ring.waitList → (s.line l).cad.kind = .ring ∧ (s.line l).cad.timer = none)
    ∧ ((s.line l).cid.state ≠ .idle → (s.line l).cad.kind = .ring ∧ (s.line l).cad.timer = none
        ∧ s.ring.converter ≠ .driving l ∧ l ∉ s.ring.waitList)

/-- With the channel CLOSED the CNG and answer detectors are stopped and IDLE (R116, R117). -/
def TonesRest (x : LineState) : Prop :=
  x.buf.state = .closed →
    x.det.cngLineRun.on = false ∧ x.det.cngNetRun.on = false ∧ x.det.ansLineRun.on = false ∧ x.det.ansNetRun.on = false
    ∧ x.det.cngLine = .idle ∧ x.det.cngNet = .idle ∧ x.det.ansLine = .idle ∧ x.det.ansNet = .idle

/-- With the channel not CLOSED all five detectors run (R117). -/
def FiveRun (x : LineState) : Prop :=
  x.buf.state ≠ .closed → x.det.dtmfRun.on = true ∧ x.det.cngLineRun.on = true ∧ x.det.cngNetRun.on = true
    ∧ x.det.ansLineRun.on = true ∧ x.det.ansNetRun.on = true

/-- The bounds of a line's queues and estimates, and its detectors running or at rest with the channel (R15, R70, R86,
R117). -/
def LineBounded (x : LineState) : Prop :=
  EventsBounded x ∧ SpliceBounded x ∧ DepthBounded x ∧ TonesRest x ∧ FiveRun x

/-- No digit is active, and the tone detectors rest with the channel, so that a stop of detectors leaves no event (R126). -/
def Quiet (x : LineState) : Prop := digitActive x.det.dtmf = false ∧ TonesRest x

/-- In MATCHED the choice, and in CONFIRMED the current mode, is in the local ability set and in the recorded far word's,
unless NO_COMMON is set (R38, R41). -/
def AgreementSound (c : MediaChannel) : Prop :=
  c.flags.noCommon = false →
    (c.agreement = .matched → ∃ w m, c.farWord = some w ∧ c.choice = some m ∧ hasMode c.ability m = true
      ∧ hasMode w.ability m = true)
    ∧ (c.agreement = .confirmed → ∃ w, c.farWord = some w ∧ hasMode c.ability c.mode = true
      ∧ hasMode w.ability c.mode = true)

/-- A plain event record of a line's moment. -/
def eventNow (x : LineState) (kind : EventKind) (value : Byte) (duration : Word) (chatter ringTrip : Bool) : EventRecord :=
  { kind := kind, value := value, time := x.ms, duration := duration, chatter := chatter, overrun := false,
    ringTrip := ringTrip }

/-- At least two of the three kept readings are off-hook (R100). -/
def offHookMajority (h : HookSamples) : Prop :=
  (h.oldest = true ∧ h.middle = true) ∨ (h.middle = true ∧ h.newest = true) ∨ (h.oldest = true ∧ h.newest = true)

/-- The line as the Loop Supervisor leaves it with no feed and nothing timed (R98, R112). -/
def Unfed (v w : Supervisor) : Prop :=
  w.state = .down ∧ w.qualification = none ∧ w.breakRecord = none ∧ w.pulseCount = 0 ∧ w.interdigitTimer = none
    ∧ w.overcurrentTimer = none ∧ w.restoreCheck = none ∧ w.samples = v.samples ∧ w.filteredOffHook = v.filteredOffHook
    ∧ w.timing = v.timing ∧ w.overcurrent = v.overcurrent

/-- A media body is well formed (R180): the length is what the line, kind and mode word make it, and each enumeration is in
its set. -/
def BodyFormed (body : List Byte) : Prop :=
  ∃ lf format s1 s0 t3 t2 t1 t0 rest, body = lf :: format :: s1 :: s0 :: t3 :: t2 :: t1 :: t0 :: rest
    ∧ (lf = 1 ∨ lf = 2) ∧ (format.toNat % 4 = 0 ∨ format.toNat % 4 = 1)
    ∧ rest.length = (if format.toNat < 128 then 0 else 2) + (if format.toNat % 4 = 0 then 80 else 160)
    ∧ (128 ≤ format.toNat → ∃ w0 w1 payload, rest = w0 :: w1 :: payload ∧ w1.toNat / 16 % 4 < 2 ∧ w1.toNat % 8 < 4)

/-- The agreement of line `l` restarted from `s`, the requested class being `k` (R36): `p` is the owner that is told. -/
def Restarted (p : Port) (l : Line) (k : MediaClass) (s u : State) : Prop :=
  u.line l = { s.line l with
      chan := { (s.line l).chan with
        requestedClass := k, agreement := .advertise, farWord := none, choice := none,
        flags := { dataRefused := false, noCommon := false, farSilent := false, timeout := false }, bareCount := 0,
        agreementTimer := some (s.line l).ms }
      ctr := { (s.line l).ctr with agreementRestarts := satAdd (s.line l).ctr.agreementRestarts 1 } }
    ∧ ElseSame l s u ∧ (∀ q, OnlyFlags (s.port q) (u.port q))
    ∧ ((s.line l).chan.agreement ≠ .advertise → isLatched (u.port p).flags (.agreementChanged l) = true)
    ∧ ((s.line l).chan.agreement = .advertise → u.portA = s.portA ∧ u.portB = s.portB)

/-- The choice rule's choice and its two flags, by the local set, the local class and the far word (R38). -/
def Chosen (ability : BitVec 4) (k : MediaClass) (w : ModeWord) (choice : Option Mode) (f : AgreementFlags) : Prop :=
  ((k = .data ∨ w.mediaClass = .data) →
    (hasMode (ability &&& w.ability) .d16 = true → choice = some .d16 ∧ f.dataRefused = false ∧ f.noCommon = false)
    ∧ (hasMode (ability &&& w.ability) .d16 = false → hasMode (ability &&& w.ability) .d8 = true →
      choice = some .d8 ∧ f.dataRefused = false ∧ f.noCommon = false)
    ∧ (hasMode (ability &&& w.ability) .d16 = false → hasMode (ability &&& w.ability) .d8 = false →
      f.dataRefused = true ∧ f.noCommon = !(hasMode (ability &&& w.ability) .v16 || hasMode (ability &&& w.ability) .v8)
        ∧ choice = some (if hasMode (ability &&& w.ability) .v16 then .v16 else .v8)))
  ∧ (k = .voice → w.mediaClass = .voice →
    f.dataRefused = false ∧ f.noCommon = !(hasMode (ability &&& w.ability) .v16 || hasMode (ability &&& w.ability) .v8)
      ∧ choice = some (if hasMode (ability &&& w.ability) .v16 then .v16 else .v8))

/-- A MEDIA body of line `l` without a mode word, whose frame record at arrival sample count `n` is `r` (R51, R180). -/
def BareBody (l : Line) (n : DWord) (body : List Byte) (r : FrameRecord) : Prop :=
  ∃ format s1 s0 t3 t2 t1 t0 rest, body = lineByte l :: format :: s1 :: s0 :: t3 :: t2 :: t1 :: t0 :: rest
    ∧ format.toNat < 128 ∧ r.sequence.toNat = s1.toNat * 256 + s0.toNat
    ∧ r.timestamp.toNat = t3.toNat * 16777216 + t2.toNat * 65536 + t1.toNat * 256 + t0.toNat
    ∧ r.payload = rest ∧ r.arrival = n
    ∧ ((format.toNat % 4 = 0 ∧ r.kind = .log8 ∧ rest.length = 80) ∨ (format.toNat % 4 = 1 ∧ r.kind = .lin16 ∧ rest.length = 160))

/-- A well-formed MEDIA body of line `l` with the mode word `w` (R180, spec 10.3). -/
def WordBody (l : Line) (w : ModeWord) (body : List Byte) : Prop :=
  BodyFormed body ∧ ∃ format s1 s0 t3 t2 t1 t0 w0 w1 payload,
    body = lineByte l :: format :: s1 :: s0 :: t3 :: t2 :: t1 :: t0 :: w0 :: w1 :: payload ∧ 128 ≤ format.toNat
    ∧ w.ability = BitVec.ofNat 4 w0.toNat ∧ w.ack = w1.getLsbD 7
    ∧ w.mediaClass = (if w1.toNat / 16 % 4 = 0 then .voice else .data)
    ∧ w1.toNat % 8 = (match w.mode with | .v8 => 0 | .v16 => 1 | .d8 => 2 | .d16 => 3)

/-- A frame from the owner `p` of the open line `l` is taken. -/
def OwnerSends (p : Port) (l : Line) (s : State) : Prop :=
  (s.port p).transaction = .write ∧ (s.line l).owner = some p ∧ (s.line l).buf.state.isOpen = true

/-- The Depth Tracker after a stored frame (R81, R82). -/
def estimated (t : DepthTracker) (arrival timestamp : DWord) : DepthTracker :=
  { t with
    jitter := match t.lastTransit with
      | some last => t.jitter + (16 * (min (arrival - timestamp - last).toInt.natAbs 4096 : Nat) - t.jitter) / 16
      | none => t.jitter
    lastTransit := some (arrival - timestamp) }

/-- The frame with this sequence number is stored (R52). -/
def Holds (slots : Slots) (q : Word) (r : FrameRecord) : Prop := slots[slotOf q] = some r ∧ r.sequence = q

/-- T as the Depth Tracker computes it at a frame-start (R85). -/
def targetNow (x : LineState) : Nat :=
  match x.chan.mode.mediaClass with
  | .voice => max x.chan.params.tmin (min x.chan.params.tmax (80 + 3 * ((x.depth.jitter + 15) / 16).toNat))
  | .data => x.chan.params.dataTarget

/-- S after an update with depth `d` (R86). -/
def smoothedNow (x : LineState) (d : Nat) : Int :=
  x.depth.smoothed + (16 * (d : Int) - x.depth.smoothed)
    / 2 ^ (if x.chan.mode.mediaClass = .voice then x.chan.params.kVoice else x.chan.params.kData)

/-- A tone pair of the keypad's row `i` and column `j`, within the tolerance, the levels and the twist of R118. -/
def KeyTones (i j : Fin 4) (b : BlockReading) : Prop :=
  ∃ row column : Tone, b.tones = [row, column]
    ∧ 980 * [697, 770, 852, 941].getD i.val 0 ≤ 100 * row.freq ∧ 100 * row.freq ≤ 1020 * [697, 770, 852, 941].getD i.val 0
    ∧ 980 * [1209, 1336, 1477, 1633].getD j.val 0 ≤ 100 * column.freq
    ∧ 100 * column.freq ≤ 1020 * [1209, 1336, 1477, 1633].getD j.val 0
    ∧ -360 ≤ row.level ∧ row.level ≤ -30 ∧ -360 ≤ column.level ∧ column.level ≤ -30
    ∧ column.level - row.level ≤ 40 ∧ row.level - column.level ≤ 80

/-- The key at row `i` and column `j`, as a digit value (R13, R118). -/
def keyDigit (i j : Fin 4) : Fin 16 :=
  (#v[#v[1, 2, 3, 12], #v[4, 5, 6, 13], #v[7, 8, 9, 14], #v[10, 0, 11, 15]] : Vector (Vector (Fin 16) 4) 4)[i][j]

/-! Words for events (R13 to R15) -/

/-- What a queue holds once an event is detected: the record at the tail while fewer than 16 are held, else OVERRUN on the
newest, the event lost (R14, R15). -/
def recorded (q : List EventRecord) (e : EventRecord) : List EventRecord :=
  if q.length < 16 then q ++ [e] else q.dropLast ++ (q.getLast?.map fun r => { r with overrun := true }).toList

/-- The notice of an event of line `l`, stored or lost: EVENTS at the owner, UNOWNED_ACTIVITY at both ports without one
(R14, R15). -/
def Noticed (l : Line) (s u : State) : Prop :=
  (∀ p, (s.line l).owner = some p → isLatched (u.port p).flags (.events l) = true)
    ∧ ((s.line l).owner = none → ∀ p, isLatched (u.port p).flags (.unownedActivity l) = true)

/-- The number of an event kind (spec 10.3). -/
def kindNumber : EventKind → Byte
  | .offHook => 1
  | .onHook => 2
  | .flash => 3
  | .pulseDigit => 4
  | .breakInvalid => 5
  | .dtmfDigit => 6
  | .toneCng => 7
  | .toneAns => 8
  | .toneAnsReversal => 9
  | .toneEnd => 10
  | .cidDone => 11
  | .cidAborted => 12
  | .loopFault => 13
  | .feedRestored => 14

/-- The 7 bytes of an event record (spec 10.3). -/
def recordBytes (e : EventRecord) : List Byte :=
  [kindNumber e.kind, e.value, hiByte e.time, loByte e.time, hiByte e.duration, loByte e.duration,
    (if e.chatter then 1 else 0) + (if e.overrun then 2 else 0) + (if e.ringTrip then 4 else 0)]

/-- The queue after a transmission that may be in progress is aborted (R171, R172). -/
def afterAbort (x : LineState) : List EventRecord :=
  if x.cid.state = .idle then x.events else recorded x.events (eventNow x .cidAborted 0 0 false false)

/-! Words for ringing (R149 to R162) -/

/-- The converter of a judgement made at the last ring cadence's end, with a full feed on some line, or on none (R159; log 35). -/
def judged (full : Bool) (a : RingArbiter) : RingArbiter :=
  if full then { a with converter := .ready, keepWarm := some 0, judgedNow := true }
  else { a with converter := .off, keepWarm := none, judgedNow := true }

/-- The converter after the feed mode field of line `l` has become `m`: judged on it at the moment of the last ring
cadence's end (R162, log 35); turned OFF where it leaves neither feed full while the keep-warm timer runs (R159). -/
def feedJudged (l : Line) (m : FeedMode) (s : State) : RingArbiter :=
  let full := fullFeed m || fullFeed (s.line (otherLine l)).sup.feed
  if s.ring.judgedNow = true ∧ (s.ring.converter = .ready ∨ s.ring.converter = .off) ∧ s.ring.waitList = []
      ∧ (s.line l).cad.kind ≠ .ring ∧ (s.line (otherLine l)).cad.kind ≠ .ring then judged full s.ring
  else if s.ring.keepWarm ≠ none ∧ full = false then { s.ring with converter := .off, keepWarm := none }
  else s.ring

/-- The converter after the ring cadence of line `l` has stopped with its feed mode field at `m`: its burst ends and a
waiting line is granted, or its entry is withdrawn; with no ring cadence left, READY and nobody waiting, the feeds are
judged (R152, R155 to R159). -/
def ringStopped (l : Line) (m : FeedMode) (s : State) : RingArbiter :=
  let full := fullFeed m || fullFeed (s.line (otherLine l)).sup.feed
  let others : Bool := decide ((s.line (otherLine l)).cad.kind = .ring)
  if s.ring.converter = .driving l then
    match s.ring.waitList with
    | k :: rest => { s.ring with converter := .driving k, waitList := rest, keepWarm := none }
    | [] => if others then { s.ring with converter := .ready } else judged full { s.ring with converter := .ready }
  else
    let a : RingArbiter := { s.ring with waitList := s.ring.waitList.filter (fun k => decide (k ≠ l)) }
    if s.ring.converter = .ready ∧ a.waitList = [] ∧ others = false then judged full a else a

/-- A granted line's step timer starts now (R152). -/
def granted (x : LineState) : LineState :=
  { x with cad := { x.cad with timer := x.cad.inHand.map fun h => { start := x.ms, length := 10 * h.step.duration } } }

/-- The other line after the ring cadence of line `l` has stopped: the same, but for its grant where it waited behind a
burst (R152, R155). -/
def otherAfterStop (l : Line) (s : State) : LineState :=
  if s.ring.converter = .driving l ∧ s.ring.waitList ≠ [] then granted (s.line (otherLine l)) else s.line (otherLine l)

/-- A driven line has no entry in the wait list (R149). -/
def ListSound (l : Line) (s : State) : Prop := s.ring.converter = .driving l → l ∉ s.ring.waitList

/-- The table, the clock and the waiting commands are the same. -/
def RestSame (s u : State) : Prop :=
  u.steps = s.steps ∧ u.pairs = s.pairs ∧ u.tick = s.tick ∧ u.pending = s.pending

/-- Cadence, step and loop absent (R144; index and current step 0: log 33). -/
def noCadence (c : CadenceEngine) : CadenceEngine :=
  { c with kind := .none, index := 0, current := 0, inHand := none, timer := none, loop := none, zeroRun := 0 }

/-- A step without a tone pair that begins with its timer running (R141, R142). -/
def timedStep (i : Fin 64) (e : CadenceStep) (now : Word) (c : CadenceEngine) : CadenceEngine :=
  { c with current := i, inHand := some { step := e, pair := none }, zeroRun := 0,
           timer := some { start := now, length := 10 * e.duration } }

/-- A ring cadence that begins at the RING step `e` at index `i`, the timer as given (R139, R141). -/
def ringBegun (i : Fin 64) (e : CadenceStep) (timer : Option Timer) (c : CadenceEngine) : CadenceEngine :=
  { c with kind := .ring, index := i, current := i, inHand := some { step := e, pair := none }, timer := timer,
           loop := none, zeroRun := 0 }

/-- The phases with which a TONE step's pair `new` begins, after a step whose pair was `before`: zero after another kind of
step or another pair, kept where the pair's two different frequencies go on (R147). -/
def TonePhases (before : Option TonePair) (new : TonePair) (c : CadenceEngine) (a b : Nat) : Prop :=
  (before = none ∧ a = 0 ∧ b = 0)
    ∨ (before = some new ∧ new.f1 ≠ new.f2 ∧ a = c.phase1 ∧ b = c.phase2)
    ∨ ∃ q, before = some q ∧ q.f1 ≠ new.f1 ∧ q.f1 ≠ new.f2 ∧ q.f2 ≠ new.f1 ∧ q.f2 ≠ new.f2 ∧ a = 0 ∧ b = 0

/-- A number as a sample, limited to the 16-bit range (log 7). -/
def limited (v : Int) : Sample := BitVec.ofInt 16 (max (-32768) (min 32767 v))

/-- One frequency's part of a tone: none at 0 Hz (R130, R147; log 7). -/
def part (f attenuation phase : Nat) : Int := if f = 0 then 0 else Config.sineSample f attenuation phase

/-- A transmission whose message is `m` has samples left to send (R167; log 24, log 34). -/
def StillSends (c : CallerIdTx) (m : LoadedCallerId) : Prop :=
  c.loaded = some m ∧ (c.state = .seizure ∨ c.state = .mark ∨ (c.state = .data ∧ c.bitPos < 10 * m.message.length))

/-- The bit that a transmission sends now: the seizure's alternating bits from 0 on, marks, or the message's bytes in
frames of a start bit 0, eight bits least significant first and a stop bit 1 (R167). -/
def SendsBit (c : CallerIdTx) (m : LoadedCallerId) (b : Bool) : Prop :=
  (c.state = .seizure → b = decide (c.bitPos % 2 = 1)) ∧ (c.state = .mark → b = true)
    ∧ (c.state = .data → b = if c.bitPos % 10 = 0 then false else if c.bitPos % 10 = 9 then true
        else (m.message.getD (c.bitPos / 10) 0).getLsbD (c.bitPos % 10 - 1))

/-! Words for LOG8 and for decoding (R32 to R34) -/

/-- `b` is the LOG8 code of the sample `x` (R32). -/
def Log8Code (x : Sample) (b : Byte) : Prop :=
  ∃ (v : Int) (u p : Nat), v = x.toInt / 4 ∧ u = min 8158 v.natAbs + 33 ∧ 2 ^ p ≤ u ∧ u < 2 ^ (p + 1)
    ∧ b = ~~~ BitVec.ofNat 8 ((if 0 ≤ v then 128 else 0) + (p - 5) * 16 + u / 2 ^ (p - 4) % 16)

/-- `y` is the sample of the LOG8 code `b` (R33). -/
def Log8Sample (b : Byte) (y : Sample) : Prop :=
  ∃ (s t : Nat) (m : Int), s = (~~~ b).toNat / 16 % 8 ∧ t = (~~~ b).toNat % 16
    ∧ m = ((2 * t + 33) * 2 ^ s : Nat) - 33 ∧ y = BitVec.ofInt 16 (4 * (if 128 ≤ (~~~ b).toNat then m else -m))

/-- `xs` are the samples of a stored frame by its own payload kind (R34). -/
def Decoded (r : FrameRecord) (xs : List Sample) : Prop :=
  (r.kind = .log8 → List.Forall₂ Log8Sample r.payload xs)
    ∧ (r.kind = .lin16 → r.payload = xs.flatMap fun v => [hiByte v, loByte v])

/-! Words for the playout (R60 to R73, R88 to R93) -/

/-- No switch is ready: no splice is pending, or no frame of the new stream is queued (R72). -/
def NoSwitch (b : PlayoutBuffer) : Prop := b.splicePending = false ∨ b.spliceQueue = []

/-- A queued frame joins a primed buffer: a duplicate counts, another is stored and sets an unset P (R54, R73). -/
def joined (x : LineState) (r : FrameRecord) : LineState :=
  if x.buf.slots[slotOf r.sequence].any (fun g => g.sequence == r.sequence) then
    { x with ctr := { x.ctr with duplicate := satAdd x.ctr.duplicate 1 } }
  else
    { x with
      buf := { x.buf with slots := x.buf.slots.set (slotOf r.sequence) (some r)
                          playoutPoint := some (x.buf.playoutPoint.getD r.sequence) }
      depth := estimated x.depth r.arrival r.timestamp
      ctr := { x.ctr with stored := satAdd x.ctr.stored 1 } }

/-- The line after a switch whose queued frames all lie in one window (R73). -/
def switched (x : LineState) : LineState :=
  let y := x.buf.spliceQueue.foldl joined { x with
    buf := { x.buf with slots := Vector.replicate 64 none, playoutPoint := none, state := .priming, missing := 0,
                        spliceQueue := [] } }
  { y with buf := { y.buf with splicePending := false }, depth := { y.depth with lastTransit := none } }

/-- The frame at `P`, whose samples are `xs`, is played in the period `d`, the Depth Tracker and the counters becoming `t`
and `k` (R61). -/
def played (l : Line) (P : Word) (xs : List Sample) (t : DepthTracker) (k : ChannelCounters) (d : Period) (s : State) :
    State :=
  s.modLine l fun x => { x with
    depth := t, ctr := k
    buf := { x.buf with slots := x.buf.slots.set (slotOf P) none, playoutPoint := some (P + 1), missing := 0
                        lastPlayed := some xs, state := .playing, period := d } }

/-! Words for the detectors (R116 to R127) -/

/-- All five detectors run on whole blocks (R116, R117). -/
def AllRun (d : Detectors) : Prop :=
  d.dtmfRun = ⟨true, false⟩ ∧ d.cngLineRun = ⟨true, false⟩ ∧ d.cngNetRun = ⟨true, false⟩
    ∧ d.ansLineRun = ⟨true, false⟩ ∧ d.ansNetRun = ⟨true, false⟩

/-- The number of a side in an event record (spec 10.3). -/
def sideNumber : Side → Byte
  | .line => 0
  | .network => 1

/-- The tones of one side, the other side silent (R116). -/
def OneSide (k : Side) (tones : List Tone) (a b : BlockReading) : Prop :=
  match k with
  | .line => a.tones = tones ∧ b.tones = []
  | .network => b.tones = tones ∧ a.tones = []

/-- The phase step of a side's block (R124). -/
def stepOf (k : Side) (a b : BlockReading) : Nat :=
  match k with
  | .line => a.phaseStep
  | .network => b.phaseStep

/-- Only the DTMF detector is not IDLE, and its state is `st`. -/
def DtmfAlone (st : DtmfState) (d : Detectors) : Prop :=
  d.dtmf = st ∧ d.cngLine = .idle ∧ d.cngNet = .idle ∧ d.ansLine = .idle ∧ d.ansNet = .idle

/-- Only one side's CNG detector is not IDLE, and its state is `st`. -/
def CngAlone (k : Side) (st : CngState) (d : Detectors) : Prop :=
  d.dtmf = .idle ∧ d.ansLine = .idle ∧ d.ansNet = .idle
    ∧ match k with
      | .line => d.cngLine = st ∧ d.cngNet = .idle
      | .network => d.cngNet = st ∧ d.cngLine = .idle

/-- Only one side's answer detector is not IDLE, and its state is `st`. -/
def AnsAlone (k : Side) (st : AnswerState) (d : Detectors) : Prop :=
  d.dtmf = .idle ∧ d.cngLine = .idle ∧ d.cngNet = .idle
    ∧ match k with
      | .line => d.ansLine = st ∧ d.ansNet = .idle
      | .network => d.ansNet = st ∧ d.ansLine = .idle

/-- The detectors with one side's CNG state `st`. -/
def withCng (k : Side) (st : CngState) (d : Detectors) : Detectors :=
  match k with
  | .line => { d with cngLine := st }
  | .network => { d with cngNet := st }

/-- The detectors with one side's answer state `st`. -/
def withAns (k : Side) (st : AnswerState) (d : Detectors) : Detectors :=
  match k with
  | .line => { d with ansLine := st }
  | .network => { d with ansNet := st }

/-- The line after a judged block: its detectors, and an event where one is detected (R116). -/
def Judged (l : Line) (d : Detectors) (event : Option EventRecord) (s u : State) : Prop :=
  (u.line l).det = d ∧ (u.line l).blockDue = false
    ∧ (u.line l).events = (match event with | some e => recorded (s.line l).events e | none => (s.line l).events)
    ∧ (event ≠ none → Noticed l s u) ∧ (u.line l).buf = (s.line l).buf ∧ (u.line l).depth = (s.line l).depth
    ∧ (u.line l).sup = (s.line l).sup ∧ (u.line l).cad = (s.line l).cad ∧ (u.line l).cid = (s.line l).cid
    ∧ (u.line l).owner = (s.line l).owner ∧ (u.line l).generation = (s.line l).generation
    ∧ (u.line l).ms = (s.line l).ms ∧ ElseSame l s u ∧ ∀ q, OnlyFlags (s.port q) (u.port q)

/-- Channel and counters are the same: no trigger has acted. -/
def NoTrigger (x y : LineState) : Prop := y.chan = x.chan ∧ y.ctr = x.ctr

/-- What a trigger does to channel and counters, `inSet` saying whether it is in the trigger set (R45). -/
def Triggered (inSet : Bool) (x y : LineState) : Prop :=
  ((inSet = false ∨ x.buf.state.isOpen = false ∨ x.chan.mode.mediaClass = .data
      ∨ (x.chan.requestedClass = .data ∧ x.chan.agreement ≠ .presumed)) → NoTrigger x y)
    ∧ (inSet = true → x.buf.state.isOpen = true → x.chan.mode.mediaClass = .voice →
      (x.chan.agreement ≠ .presumed → x.chan.requestedClass = .voice →
        y.chan = { x.chan with
          requestedClass := .data, agreement := .advertise, farWord := none, choice := none
          flags := { dataRefused := false, noCommon := false, farSilent := false, timeout := false }
          bareCount := 0, agreementTimer := some x.ms }
        ∧ y.ctr = { x.ctr with agreementRestarts := satAdd x.ctr.agreementRestarts 1 })
      ∧ (x.chan.agreement = .presumed →
        y.chan = { x.chan with requestedClass := .data, mode := .d8, reprime := true } ∧ y.ctr = x.ctr))

end Sys2Proof.Claim

open Sys2Proof.Claim

/-- A step runs the command at the front of the queue. For every command, waiting rest and state: the step of the state
whose queue is the command and the rest is the command's effect on the state whose queue is the rest. The queue is the
model's own (log 1). -/
def Obligations.StepRunsFrontCommand : Prop :=
  ∀ (c : Instr) (rest : List Instr) (s : State), step { s with pending := c :: rest } = exec c { s with pending := rest }

/-- The state after reset meets every invariant that steps keep. The state after reset has sound queues, sound ringing,
bounded lines, windowed slots and a sound agreement on both lines, and its steps keep each of these by the invariant
statements. -/
def Obligations.ResetMeetsInvariants : Prop :=
  QueuesSound State.reset ∧ RingSound State.reset
    ∧ ∀ l, LineBounded (State.reset.line l) ∧ SlotsWindowed (State.reset.line l).buf
      ∧ AgreementSound (State.reset.line l).chan

/-- Power-on reset leaves the line records, blocks and ports at their power-on values. POWER_ON_RESET answers a next state
in every state: both lines unowned at generation 0 with counter 0, no event, feed NORMAL, ON_HOOK, on-hook samples, no
cadence, no caller-ID record, channel CLOSED with no frame, no sample heard (log 21), agreement ADVERTISE, VOICE, V8,
all counters 0; converter OFF with nobody waiting and no judgement marked (log 35); both ports with no transaction,
empty FIFO and queue, only RESET_DONE latched, every enable set, pointer 0, hold off, counters 0, attention low; the
waiting commands of the model's own queue stay. -/
def Obligations.PowerOnResetState : Prop :=
  ∀ s, ∃ t, exec .powerOnReset s = .next t ∧ t.pending = s.pending
    ∧ t.ring.converter = .off ∧ t.ring.startTimer = none ∧ t.ring.waitList = [] ∧ t.ring.keepWarm = none ∧ t.ring.judgedNow = false
    ∧ t.steps[(0 : Fin 64)] = { action := .ring, tone := 0, duration := 200, target := 0, count := 0 }
    ∧ t.steps[(25 : Fin 64)] = { action := .jump, tone := 0, duration := 1, target := 23, count := 9 }
    ∧ t.pairs[(0 : Fin 16)] = { f1 := 350, f2 := 440, attenuation := 13 }
    ∧ (∀ l, (t.line l).owner = none ∧ (t.line l).generation = 0 ∧ (t.line l).ms = 0 ∧ (t.line l).events = []
      ∧ (t.line l).sup.feed = .normal ∧ (t.line l).sup.state = .onHook ∧ (t.line l).sup.samples = ⟨false, false, false⟩
      ∧ (t.line l).sup.filteredOffHook = false ∧ (t.line l).sup.qualification = none
      ∧ (t.line l).sup.timing = { offQualify := 30, breakMin := 15, pulseMax := 110, flashMin := 250, flashMax := 1100,
                                  interdigit := 300 }
      ∧ (t.line l).cad.kind = .none ∧ (t.line l).cid.loaded = none ∧ (t.line l).cid.state = .idle
      ∧ (t.line l).lineHeard = { now := [], block := [], before := [] }
      ∧ (t.line l).netHeard = { now := [], block := [], before := [] }
      ∧ (t.line l).buf.state = .closed ∧ storedCount (t.line l).buf.slots = 0 ∧ (t.line l).buf.playoutPoint = none
      ∧ (t.line l).buf.splicePending = false ∧ (t.line l).buf.spliceQueue = []
      ∧ (t.line l).chan.ability = 0b0001 ∧ (t.line l).chan.requestedClass = .voice ∧ (t.line l).chan.mode = .v8
      ∧ (t.line l).chan.agreement = .advertise ∧ (t.line l).chan.farWord = none
      ∧ (t.line l).depth = { jitter := 0, lastTransit := none, smoothed := 0, target := 0, since := 0 }
      ∧ ∀ k ∈ (t.line l).ctr.list, k = 0)
    ∧ ∀ p, (t.port p).transaction = .none ∧ (t.port p).fifo = [] ∧ (t.port p).outbound = []
      ∧ (∀ n, isLatched (t.port p).flags n = decide (n = .resetDone)) ∧ (t.port p).mask = 0xFFFF
      ∧ (t.port p).pointer = 0 ∧ (t.port p).hold = none ∧ (t.port p).malformedMedia = 0 ∧ (t.port p).foreign = 0
      ∧ (t.port p).lostCommands = 0 ∧ (t.port p).cutMessages = 0 ∧ attentionLow (t.port p) = true

/-- NOP and an unknown code change nothing but for their replies OK and UNKNOWN. Where a command executes at once: NOP
answers the state with a reply OK without data, whatever its line field; a code outside the command table answers the
state with a reply UNKNOWN without data. -/
def Obligations.NopAndUnknownReply : Prop :=
  ∀ (p : Port) (tag line : Byte) (s : State), Free s p →
    exec (.nop p tag line) s = .next (replied p tag 0x01 .ok [] s)
      ∧ ∀ (code : Byte) (args : List Byte), code ∉ tableCodes →
        exec (.unknownCommand p code tag line args) s = .next (replied p tag code .unknown [] s)

/-- READ_NOTICES reports the 15 flags and four counters of its port and clears them. Where it executes at once,
READ_NOTICES answers OK with the flags in two bytes and the counters malformed media, foreign, lost commands and cut
messages in two bytes each; the sending port's flags and counters are then 0 and nothing else differs; a flag latched
after it stays latched. -/
def Obligations.ReadNoticesTakesAndClears : Prop :=
  ∀ (p : Port) (tag line : Byte) (s : State), Free s p →
    exec (.readNotices p tag line) s = .next (replied p tag 0x02 .ok
      [BitVec.zeroExtend 8 ((s.port p).flags.extractLsb' 8 7), (s.port p).flags.extractLsb' 0 8,
        hiByte (s.port p).malformedMedia, loByte (s.port p).malformedMedia, hiByte (s.port p).foreign,
        loByte (s.port p).foreign, hiByte (s.port p).lostCommands, loByte (s.port p).lostCommands,
        hiByte (s.port p).cutMessages, loByte (s.port p).cutMessages]
      (s.modPort p fun q => { q with flags := 0, malformedMedia := 0, foreign := 0, lostCommands := 0, cutMessages := 0 }))
    ∧ ∀ t, exec (.readNotices p tag line) s = .next t →
        ∀ n, isLatched ((latch p n t).port p).flags n = true

/-- SET_NOTICE_MASK replaces the 16 enables, and the mask decides only the attention line. Where it executes at once,
SET_NOTICE_MASK answers OK with the mask in force for every value and line field, the sending port's mask being the
value and nothing else differing; after it the attention line is low exactly when an enabled flag is latched or bit 15
is set and the queue holds a message; and a notice latched under any mask is latched. -/
def Obligations.NoticeMaskReplaced : Prop :=
  ∀ (p : Port) (tag line : Byte) (mask : Word) (s : State), Free s p →
    ∃ t, exec (.setNoticeMask p tag line mask) s = .next t
      ∧ t = replied p tag 0x03 .ok [hiByte mask, loByte mask] (s.modPort p fun q => { q with mask := mask })
      ∧ (attentionLow (t.port p) = true ↔
          (∃ n : Notice, isLatched (t.port p).flags n = true ∧ mask.getLsbD n.bit = true)
            ∨ (mask.getLsbD 15 = true ∧ (t.port p).outbound ≠ []))
      ∧ ∀ n, isLatched ((latch p n t).port p).flags n = true

/-- The attention line is low exactly while an enabled flag is latched or the queue calls. For every Port Link: the
attention line is driven low if and only if some notice is latched whose enable is set, or OUTBOUND_READY, bit 15, is
enabled and the outbound queue is not empty. -/
def Obligations.AttentionLineFollows : Prop :=
  ∀ q : PortLink, attentionLow q = true ↔
    (∃ n : Notice, isLatched q.flags n = true ∧ q.mask.getLsbD n.bit = true)
      ∨ (q.mask.getLsbD 15 = true ∧ q.outbound ≠ [])

/-- A command that cannot execute joins the FIFO, and with four waiting it is lost to overrun. For every command row, and
for a COMMAND taken in a WRITE: where a command waits or 8 replies are queued, with fewer than 4 waiting the command
joins the tail of its port's FIFO and nothing else differs; with 4 waiting, COMMAND_OVERRUN is latched at the port,
lost commands is increased by 1 and nothing else differs: no reply is queued. -/
def Obligations.CommandWaitsOrIsLost : Prop :=
  ∀ (c : Instr) (p : Port) (code tag line : Byte) (args : List Byte) (s : State),
    (commandMessage c = some (p, code :: tag :: line :: args)
      ∨ (c = .commandTaken p (code :: tag :: line :: args) ∧ (s.port p).transaction = .write)) →
    ((s.port p).fifo ≠ [] ∨ 8 ≤ replyCount (s.port p)) →
    ((s.port p).fifo.length < 4 →
      exec c s = .next (s.modPort p fun q => { q with fifo := q.fifo ++ [waiting code tag line args] }))
    ∧ ((s.port p).fifo.length = 4 →
      exec c s = .next (s.modPort p fun q => { q with flags := q.flags ||| BitVec.twoPow 15 12,
                                                      lostCommands := satAdd q.lostCommands 1 }))

/-- In a WRITE a taken COMMAND executes and replies, and a foreign message is only counted. In a WRITE: a COMMAND of three
bytes with the code of NOP executes and is answered OK; a known code other than LOAD_CALLER_ID's with a wrong number
of argument bytes is answered MALFORMED with nothing else done; an unknown code is answered UNKNOWN; a COMMAND body of
0 to 2 bytes, and a FOREIGN_MESSAGE row, increase foreign messages by 1 and nothing else differs. -/
def Obligations.TakenCommandsAndForeign : Prop :=
  ∀ (p : Port) (s : State), (s.port p).transaction = .write →
    (Free s p → ∀ (tag line : Byte),
      exec (.commandTaken p [0x01, tag, line]) s = .next (replied p tag 0x01 .ok [] s)
      ∧ (∀ (k : CommandCode) (args : List Byte), k ≠ .loadCallerId → args.length ≠ argLength k →
        exec (.commandTaken p (codeByte k :: tag :: line :: args)) s = .next (replied p tag (codeByte k) .malformed [] s))
      ∧ ∀ (code : Byte) (args : List Byte), code ∉ tableCodes →
        exec (.commandTaken p (code :: tag :: line :: args)) s = .next (replied p tag code .unknown [] s))
    ∧ (∀ body : List Byte, body.length < 3 →
      exec (.commandTaken p body) s = .next (s.modPort p fun q => { q with foreign := satAdd q.foreign 1 }))
    ∧ ∀ (type : Byte) (body : List Byte),
      exec (.foreignMessage p type body) s = .next (s.modPort p fun q => { q with foreign := satAdd q.foreign 1 })

/-- The COMMAND message that encodes a command row does what the row does. For every well-formed command row and every
state whose port is in a WRITE: taking the COMMAND message whose body the spec's layouts give the row has exactly the
row's effect, every operand at every value. So no bit of an argument is dropped or read elsewhere. -/
def Obligations.EncodedCommandActsAsItsRow : Prop :=
  ∀ (c : Instr) (s : State) (p : Port) (body : List Byte), c.wellFormed = true → commandMessage c = some (p, body) →
    (s.port p).transaction = .write → exec (.commandTaken p body) s = exec c s

/-- Chip select begins a transaction by its kind byte, and its end cuts a partial message short. With no transaction: kind
0xA1 begins a WRITE with an empty assembly, 0xA2 a READ that looks at the queue, any other kind an ignored
transaction, and no kind byte leaves it awaiting. While the kind byte is clocked, in a WRITE and in an ignored
transaction the part sends 0x00; in a READ the bytes of the message under way: three zero bytes for EMPTY; for a reply
0x20, the body's length and the body. At the end of any transaction there is none, with no assembly and no send
position, and the queue and FIFO stay; where a WRITE whose assembly is empty ends with the first part of a message
clocked in, cut messages is increased by 1 and FRAMING latched; with nothing clocked in, nothing is cut. -/
def Obligations.TransactionsBeginAndEnd : Prop :=
  ∀ (p : Port) (s : State),
    ((s.port p).transaction = .none →
      exec (.chipSelectLow p (some 0xA1)) s
          = .next (s.modPort p fun q => { q with transaction := .write, assembly := Assembly.empty })
      ∧ exec (.chipSelectLow p (some 0xA2)) s = .next (s.modPort p fun q =>
          { q with transaction := .read, sending := if q.outbound = [] then .emptyMessage else .head, sentBytes := 0 })
      ∧ (∀ k : Byte, k ≠ 0xA1 → k ≠ 0xA2 →
        exec (.chipSelectLow p (some k)) s = .next (s.modPort p fun q => { q with transaction := .ignored }))
      ∧ exec (.chipSelectLow p none) s = .next (s.modPort p fun q => { q with transaction := .awaitingKind }))
    ∧ (∀ q : PortLink, (q.transaction ≠ .read → ∀ n, dataOut q n = 0)
      ∧ (q.transaction = .read → q.sentBytes = 0 →
        (q.sending = .emptyMessage → ∀ n, n < 3 → dataOut q n = 0)
        ∧ ∀ r ms (body : List Byte), body = [r.tag, r.code, resultByte r.result] ++ r.data →
          ((q.sending = .head ∧ q.outbound = .reply r :: ms) ∨ q.sending = .departed (.reply r)) →
          dataOut q 0 = 0x20 ∧ dataOut q 1 = hiByte (BitVec.ofNat 16 body.length)
          ∧ dataOut q 2 = loByte (BitVec.ofNat 16 body.length) ∧ ∀ n v, body[n]? = some v → dataOut q (n + 3) = v))
    ∧ ((s.port p).transaction = .write → (s.port p).assembly = Assembly.empty → ∀ clocked, CutsShort clocked →
      exec (.chipSelectHigh p clocked) s = .next (s.modPort p fun q =>
        { q with transaction := .none, assembly := Assembly.empty, sending := .nothing, sentBytes := 0,
                 flags := q.flags ||| BitVec.twoPow 15 13, cutMessages := satAdd q.cutMessages 1 }))
    ∧ (((s.port p).transaction ≠ .write ∨ (s.port p).assembly = Assembly.empty) →
      exec (.chipSelectHigh p []) s = .next (s.modPort p fun q =>
        { q with transaction := .none, assembly := Assembly.empty, sending := .nothing, sentBytes := 0 }))

/-- A message sent to its last byte leaves the queue, and a freed reply place lets the next command execute. In a READ:
with no command waiting, the head sent to its last byte leaves the queue and the next look sends the new head, or
EMPTY from an empty queue; an EMPTY message, or one that had left the queue, removes nothing. With 8 replies queued, a
reply at the head and a waiting command at the head of the FIFO, whatever well-formed command row it came from: the
reply leaves and the command executes, the state being the one that its row gives where it executes at once, its reply
in the queue, the commands behind it still waiting (a DEVICE_RESET with none behind it); then the Port Link looks at
the queue (log 17). -/
def Obligations.MessageSentLeavesQueue : Prop :=
  ∀ (p : Port) (s : State), (s.port p).transaction = .read →
    ((s.port p).fifo = [] → (s.port p).sending = .head →
      exec (.messageSent p) s = .next (s.modPort p fun q =>
        { q with outbound := q.outbound.drop 1, sentBytes := 0,
                 sending := if q.outbound.drop 1 = [] then .emptyMessage else .head }))
    ∧ ((s.port p).fifo = [] → (s.port p).sending ≠ .head →
      exec (.messageSent p) s = .next (s.modPort p fun q =>
        { q with sentBytes := 0, sending := if q.outbound = [] then .emptyMessage else .head }))
    ∧ ∀ (r : Reply) (ms : List Message) (c : Instr) (code tag line : Byte) (args : List Byte) (rest : List Command),
      (s.port p).sending = .head → (s.port p).outbound = .reply r :: ms → replyCount (s.port p) = 8 →
      c.wellFormed = true → commandMessage c = some (p, code :: tag :: line :: args) →
      (s.port p).fifo = waiting code tag line args :: rest → (code = 0x16 → rest = []) →
      ∃ u, exec c (s.modPort p fun q => { q with fifo := [], outbound := ms, sending := .nothing }) = .next u
        ∧ exec (.messageSent p) s = .next (u.modPort p fun q =>
          { q with fifo := rest, sentBytes := 0, sending := if q.outbound = [] then .emptyMessage else .head })

/-- A command that needs ownership is refused BAD_LINE or NOT_OWNER with nothing done. For every command that needs
ownership, where it executes at once: a line field other than 1, 2 and 3 is answered BAD_LINE; a line the port does
not own, and ALL where it owns neither, NOT_OWNER; without data and with nothing else done. CLAIM is answered BAD_LINE
for every line field but 1 and 2, READ_LINE and READ_COUNTERS for every one but 1, 2 and 3. -/
def Obligations.OwnerCommandsRefused : Prop :=
  (∀ (c : Instr) (p : Port) (tag line code : Byte) (s : State), ownerRow c = some (p, tag, line, code) → Free s p →
    (line ≠ 1 → line ≠ 2 → line ≠ 3 → exec c s = .next (replied p tag code .badLine [] s))
    ∧ (∀ l, line = lineByte l → (s.line l).owner ≠ some p → exec c s = .next (replied p tag code .notOwner [] s))
    ∧ (line = 3 → (s.line .one).owner ≠ some p → (s.line .two).owner ≠ some p →
      exec c s = .next (replied p tag code .notOwner [] s)))
  ∧ ∀ (p : Port) (tag line : Byte) (s : State), Free s p → line ≠ 1 → line ≠ 2 →
    (∀ (owner : Byte) (g : Word), exec (.claim p tag line owner g) s = .next (replied p tag 0x10 .badLine [] s))
    ∧ (line ≠ 3 → exec (.readLine p tag line) s = .next (replied p tag 0x13 .badLine [] s)
      ∧ ∀ clear, exec (.readCounters p tag line clear) s = .next (replied p tag 0x46 .badLine [] s))

/-- ALL does the work of the two single-line commands, Line 1 first, under one reply. For every command that needs
ownership, with line ALL where it executes at once: owning both lines, it leaves the state that the command on Line 1
and then on Line 2 leave, and one reply OK whose data is an entry for Line 1 and one for Line 2, each the line, the
result, the data's length and the data of the single-line reply; owning one line, the same with that line alone. -/
def Obligations.OwnerCommandsOnAll : Prop :=
  ∀ (c : Instr) (p : Port) (tag code : Byte) (s : State), ownerRow c = some (p, tag, 3, code) → Free s p →
    ((s.line .one).owner = some p → (s.line .two).owner = some p →
      ∃ u v r₁ d₁ r₂ d₂, exec (withLine 1 c) s = .next (replied p tag code r₁ d₁ u)
        ∧ exec (withLine 2 c) u = .next (replied p tag code r₂ d₂ v)
        ∧ exec c s = .next (replied p tag code .ok
            ([1, resultByte r₁, byteOf d₁.length] ++ d₁ ++ ([2, resultByte r₂, byteOf d₂.length] ++ d₂)) v))
    ∧ ∀ l, (s.line l).owner = some p → (s.line (otherLine l)).owner ≠ some p →
      ∃ u r d, exec (withLine (lineByte l) c) s = .next (replied p tag code r d u)
        ∧ exec c s = .next (replied p tag code .ok ([lineByte l, resultByte r, byteOf d.length] ++ d) u)

/-- Every step keeps the port queues bounded and each queued media frame with its line's owner. At most 8 replies and 24
media frames are queued and at most 4 commands wait at each port, commands wait only while 8 replies do, and every
media frame in an outbound queue belongs to a line that port owns: from every state where this holds, a step that
answers a next state leaves it so. -/
def Obligations.QueuesKeptSound : Prop :=
  ∀ s t, QueuesSound s → step s = .next t → QueuesSound t

/-- CLAIM, RELEASE and HAND_OVER move the line to its new owner and leave its work running. Where it executes at once, a
CLAIM that names the present owner, another than the sender, and generation; a RELEASE and a HAND_OVER by the owner:
each answers OK with its data, the owner is the new one, the generation one greater, and the line's events,
supervision, detectors and what they have heard, cadence, caller-ID, counter and depth estimates, the other line, the
converter, the table and every other part of the ports are the same. -/
def Obligations.OwnerChangeMovesLine : Prop :=
  ∀ (c : Instr) (s : State) (p : Port) (tag : Byte) (l : Line) (new : Option Port) (code : Byte),
    ChangesOwner c s p tag l new code → Free s p →
    ∃ u, exec c s = .next (replied p tag code .ok (changeData code new ((s.line l).generation + 1)) u)
      ∧ (u.line l).owner = new ∧ (u.line l).generation = (s.line l).generation + 1
      ∧ (u.line l).events = (s.line l).events ∧ (u.line l).ms = (s.line l).ms ∧ (u.line l).sup = (s.line l).sup
      ∧ (u.line l).det = (s.line l).det ∧ (u.line l).cad = (s.line l).cad ∧ (u.line l).cid = (s.line l).cid
      ∧ (u.line l).depth = (s.line l).depth ∧ (u.line l).blockDue = (s.line l).blockDue
      ∧ (u.line l).codecOut = (s.line l).codecOut ∧ (u.line l).lineHeard = (s.line l).lineHeard
      ∧ (u.line l).netHeard = (s.line l).netHeard
      ∧ ElseSame l s u ∧ ∀ q, PortKept (s.port q) (u.port q)

/-- A CLAIM that does not compare equal answers HELD and changes nothing; the owner's own claim keeps its generation.
Where it executes at once: a CLAIM whose expected owner or generation differs from the present ones is answered HELD
with the present owner and generation; one by the present owner that names both is answered OK with them; an owner
value above 2 on line 1 or 2 is answered RANGE. In each case nothing else differs. -/
def Obligations.ClaimHeldOrKept : Prop :=
  ∀ (p : Port) (tag : Byte) (l : Line) (g : Word) (s : State), Free s p →
    (∀ o : Option Port, (o ≠ (s.line l).owner ∨ g ≠ (s.line l).generation) →
      exec (.claim p tag (lineByte l) (ownerByte o) g) s = .next (replied p tag 0x10 .held
        [ownerByte (s.line l).owner, hiByte (s.line l).generation, loByte (s.line l).generation] s))
    ∧ ((s.line l).owner = some p → g = (s.line l).generation →
      exec (.claim p tag (lineByte l) (ownerByte (some p)) g) s
        = .next (replied p tag 0x10 .ok [ownerByte (some p), hiByte g, loByte g] s))
    ∧ ∀ owner : Byte, 2 < owner.toNat →
      exec (.claim p tag (lineByte l) owner g) s = .next (replied p tag 0x10 .range [] s)

/-- At an owner change the previous owner is told and its queue purged, and the new owner is told of events. Each of the
three rows, where it changes the owner: the line's media frames leave the previous owner's outbound queue, the rest
keeping their order, each counted as dropped-at-port; OWNERSHIP_LOST is latched there; a frame of the line under way
in a READ, as the model holds the head to be from the look at the queue on (log 18), is sent to its end outside the
queue, and a reply under way stays the head; another port's queue is the same. HAND_OVER latches OWNERSHIP_GIVEN at
the other port. Where events are queued, EVENTS is latched at the new owner. -/
def Obligations.OwnerChangeAtPorts : Prop :=
  ∀ (c : Instr) (s : State) (p : Port) (tag : Byte) (l : Line) (new : Option Port) (code : Byte),
    ChangesOwner c s p tag l new code → Free s p →
    ∃ u, exec c s = .next (replied p tag code .ok (changeData code new ((s.line l).generation + 1)) u)
      ∧ (∀ q, (s.line l).owner = some q →
        (u.port q).outbound = (s.port q).outbound.filter (fun m => !m.isMediaOf l)
        ∧ (u.line l).ctr.uplinkDropped
            = satAdd (s.line l).ctr.uplinkDropped ((s.port q).outbound.countP (Message.isMediaOf l))
        ∧ isLatched (u.port q).flags (.ownershipLost l) = true
        ∧ (∀ f ms, (s.port q).sending = .head → (s.port q).outbound = .media f :: ms → f.line = l →
          (u.port q).sending = .departed (.media f))
        ∧ (∀ r ms, (s.port q).sending = .head → (s.port q).outbound = .reply r :: ms → (u.port q).sending = .head))
      ∧ (∀ q, (s.line l).owner ≠ some q → (u.port q).outbound = (s.port q).outbound
        ∧ (u.port q).sending = (s.port q).sending)
      ∧ ((s.line l).owner = none → (u.line l).ctr.uplinkDropped = (s.line l).ctr.uplinkDropped)
      ∧ (code = 0x12 → isLatched (u.port (otherPort p)).flags (.ownershipGiven l) = true)
      ∧ ∀ q, new = some q → (s.line l).events ≠ [] → isLatched (u.port q).flags (.events l) = true

/-- At an owner change a channel that is not CLOSED has its splice pending and its agreement restarted. Each of the three
rows, where it changes the owner: a CLOSED channel is the same; any other keeps its state, stored frames, playout
point, mode, class, abilities, numbering and gathered samples, its splice becomes PENDING with an empty queue, each
frame that was queued counting as a splice-drop, and its agreement restarts, the timer running afresh if the channel
is open; a state other than ADVERTISE latches AGREEMENT_CHANGED at a new owner. -/
def Obligations.OwnerChangeAtChannel : Prop :=
  ∀ (c : Instr) (s : State) (p : Port) (tag : Byte) (l : Line) (new : Option Port) (code : Byte),
    ChangesOwner c s p tag l new code → Free s p →
    ∃ u, exec c s = .next (replied p tag code .ok (changeData code new ((s.line l).generation + 1)) u)
      ∧ ((s.line l).buf.state = .closed → (u.line l).chan = (s.line l).chan ∧ (u.line l).buf = (s.line l).buf
        ∧ (u.line l).ctr.spliceDrops = (s.line l).ctr.spliceDrops)
      ∧ ((s.line l).buf.state ≠ .closed →
        (u.line l).buf = { (s.line l).buf with splicePending := true, spliceQueue := [] }
        ∧ (u.line l).chan = { (s.line l).chan with
            agreement := .advertise, farWord := none, choice := none,
            flags := { dataRefused := false, noCommon := false, farSilent := false, timeout := false }, bareCount := 0,
            agreementTimer := if (s.line l).buf.state.isOpen then some (s.line l).ms else none }
        ∧ (u.line l).ctr.spliceDrops = satAdd (s.line l).ctr.spliceDrops (s.line l).buf.spliceQueue.length
        ∧ (u.line l).ctr.agreementRestarts = satAdd (s.line l).ctr.agreementRestarts 1
        ∧ ∀ q, new = some q → (s.line l).chan.agreement ≠ .advertise →
          isLatched (u.port q).flags (.agreementChanged l) = true)

/-- A line's generation changes exactly when its owner changes, by one modulo 65536. For every command but POWER_ON_RESET
that answers a next state, from every state whose FIFOs hold commands only while 8 replies wait: each line either
keeps owner and generation, or has another owner and the generation one greater modulo 65536. -/
def Obligations.GenerationCountsOwners : Prop :=
  ∀ (c : Instr) (s t : State), (∀ p, FifoWaits (s.port p)) → c ≠ .powerOnReset → exec c s = .next t →
    ∀ l, ((t.line l).owner = (s.line l).owner ∧ (t.line l).generation = (s.line l).generation)
      ∨ ((t.line l).owner ≠ (s.line l).owner ∧ (t.line l).generation = (s.line l).generation + 1)

/-- READ_LINE returns the 15 bytes of a line's record, of both with ALL, and changes nothing. Where it executes at once,
READ_LINE from either port is answered OK with the line's record: owner, generation, supervision, feed, ring status
(BURST driven, WAITING listed, PAUSE with a ring cadence otherwise), cadence with its running bit, current step,
caller-ID loaded, channel state, agreement, class, mode, splice, event count; with no cadence the model sends the
index bits as 0 (log 33); with ALL Line 1's and then Line 2's; nothing else differs. -/
def Obligations.ReadLineReports : Prop :=
  ∀ (p : Port) (tag : Byte) (s : State), Free s p →
    (∀ l, (s.line l).cad.kind ≠ .none →
      exec (.readLine p tag (lineByte l)) s = .next (replied p tag 0x13 .ok
        [ownerByte (s.line l).owner, hiByte (s.line l).generation, loByte (s.line l).generation,
          supervisionByte (s.line l).sup.state, feedByte (s.line l).sup.feed,
          if s.ring.converter = .driving l then 2 else if l ∈ s.ring.waitList then 1
            else if (s.line l).cad.kind = .ring then 3 else 0,
          0x80 ||| byteOf (s.line l).cad.index.val, byteOf (s.line l).cad.current.val,
          if (s.line l).cid.loaded = none then 0 else 1, channelByte (s.line l).buf.state,
          agreementByte (s.line l).chan.agreement, classByte (s.line l).chan.requestedClass,
          modeByte (s.line l).chan.mode, if (s.line l).buf.splicePending then 1 else 0,
          byteOf (s.line l).events.length] s))
    ∧ (∀ l, (s.line l).cad.kind = .none → s.ring.converter ≠ .driving l → l ∉ s.ring.waitList →
      exec (.readLine p tag (lineByte l)) s = .next (replied p tag 0x13 .ok
        [ownerByte (s.line l).owner, hiByte (s.line l).generation, loByte (s.line l).generation,
          supervisionByte (s.line l).sup.state, feedByte (s.line l).sup.feed, 0, 0, 0,
          if (s.line l).cid.loaded = none then 0 else 1, channelByte (s.line l).buf.state,
          agreementByte (s.line l).chan.agreement, classByte (s.line l).chan.requestedClass,
          modeByte (s.line l).chan.mode, if (s.line l).buf.splicePending then 1 else 0,
          byteOf (s.line l).events.length] s))
    ∧ ∃ d₁ d₂, exec (.readLine p tag 1) s = .next (replied p tag 0x13 .ok d₁ s)
      ∧ exec (.readLine p tag 2) s = .next (replied p tag 0x13 .ok d₂ s)
      ∧ exec (.readLine p tag 3) s = .next (replied p tag 0x13 .ok (d₁ ++ d₂) s)

/-- READ_EVENTS returns up to 8 of the oldest records with their count and removes them. Where it executes at once for its
owner, READ_EVENTS is answered OK with the count of the records taken, at most 8, and 7 bytes for each, oldest first:
kind, value, time, duration, flags; those records leave the line's queue and nothing else differs: no notice is
cleared. -/
def Obligations.ReadEventsTakesEight : Prop :=
  ∀ (p : Port) (tag : Byte) (l : Line) (s : State), Free s p → (s.line l).owner = some p →
    exec (.readEvents p tag (lineByte l)) s = .next (replied p tag 0x14 .ok
      (byteOf (min 8 (s.line l).events.length) :: ((s.line l).events.take 8).flatMap recordBytes)
      (s.modLine l fun x => { x with events := x.events.drop 8 }))

/-- Every step keeps a line's queues and depth estimates within their bounds and its detectors with its channel. An event
queue holds at most 16 records; a splice queue at most 8 frames, and none while the splice state is NONE; S stays
within 0 to 81920 and J16 within 0 to 65536; with the channel CLOSED the CNG and answer detectors are stopped and
IDLE, with it not CLOSED all five detectors run: from every state where this holds of both lines, a step that answers
a next state leaves it so. -/
def Obligations.LineBoundsKept : Prop :=
  ∀ s t, (∀ l, LineBounded (s.line l)) → step s = .next t → ∀ l, LineBounded (t.line l)

/-- LINE_RESET returns a line to its quiet state and keeps owner, generation, feed and notices. Where it executes at once
for its owner, LINE_RESET is answered OK; the line keeps owner, generation, counter, feed mode, hook samples, filtered
state and the channel values that a close keeps; its events are empty, its cadence and caller-ID absent, its channel
CLOSED and empty with silence, sample 0 (log 26), to come, its counters 0, its detectors IDLE, its hook timing the
defaults, and supervision starts for its feed: ON_HOOK with a qualification at once where the filtered state is off-
hook, DOWN with feed OFF and nothing timed (log 22). The notices and queued media of both ports stay. A line without
ring cadence leaves converter and other line as they were; one with a ring cadence ends its burst or its request: a
waiting other line is granted, and with no ring cadence left and the converter READY the feeds are judged (log 35). -/
def Obligations.LineResetQuiets : Prop :=
  ∀ (p : Port) (tag : Byte) (l : Line) (s : State), Free s p → (s.line l).owner = some p →
    ∃ u, exec (.lineReset p tag (lineByte l)) s = .next (replied p tag 0x15 .ok [] u)
      ∧ u.portA = s.portA ∧ u.portB = s.portB ∧ u.steps = s.steps ∧ u.pairs = s.pairs ∧ u.tick = s.tick
      ∧ TableKept (s.line l) (u.line l) ∧ (u.line l).events = []
      ∧ (u.line l).sup = { feed := (s.line l).sup.feed
                           state := if (s.line l).sup.feed = .off then .down else .onHook
                           samples := (s.line l).sup.samples, filteredOffHook := (s.line l).sup.filteredOffHook
                           qualification := if (s.line l).sup.feed ≠ .off ∧ (s.line l).sup.filteredOffHook = true
                             then some { start := (s.line l).ms, offQualify := 30 } else none
                           breakRecord := none, pulseCount := 0, interdigitTimer := none, chatter := false
                           overcurrentTimer := if (s.line l).sup.feed ≠ .off ∧ (s.line l).sup.overcurrent = true
                             then some (s.line l).ms else none
                           retryTimer := none, restoreCheck := none, seriesOpen := false
                           timing := { offQualify := 30, breakMin := 15, pulseMax := 110, flashMin := 250,
                                       flashMax := 1100, interdigit := 300 }
                           overcurrent := (s.line l).sup.overcurrent }
      ∧ (u.line l).cad.kind = .none ∧ (u.line l).cad.timer = none ∧ (u.line l).cad.loop = none
      ∧ (u.line l).cid.loaded = none ∧ (u.line l).cid.state = .idle
      ∧ (u.line l).buf.state = .closed ∧ storedCount (u.line l).buf.slots = 0 ∧ (u.line l).buf.playoutPoint = none
      ∧ (u.line l).buf.missing = 0 ∧ (u.line l).buf.lastPlayed = none ∧ (u.line l).buf.splicePending = false
      ∧ (u.line l).buf.spliceQueue = [] ∧ (∀ v ∈ (u.line l).buf.period.rest, v = 0)
      ∧ (u.line l).chan = { (s.line l).chan with agreementTimer := none, reprime := false, gathered := [] }
      ∧ (u.line l).depth = (s.line l).depth ∧ (∀ k ∈ (u.line l).ctr.list, k = 0)
      ∧ (u.line l).det = Detectors.reset
      ∧ ((s.line l).cad.kind ≠ .ring → u.ring = s.ring ∧ u.line (otherLine l) = s.line (otherLine l))
      ∧ ((s.line l).cad.kind = .ring → ListSound l s →
        u.ring = ringStopped l (s.line l).sup.feed s ∧ u.line (otherLine l) = otherAfterStop l s)

/-- DEVICE_RESET is refused while the other port owns a line, and else resets lines, converter and ports, the table and
clocks staying. Where it executes at once: with a line owned by the other port it is answered NOT_OWNER with both
owners and generations and nothing else differs. Else both lines are unowned, the generation one greater where the
sender owned the line, feed NORMAL, ON_HOOK, hook readings and filtered state kept, channel CLOSED with no stored
frame and no splice, in VOICE, ADVERTISE and V8, detectors at reset, no events, no cadence, no record, counters 0; the
converter is OFF with nobody waiting; FIFOs are empty, the reply is the only message of its port, the other queue
empty, only RESET_DONE latched, every enable set, pointers 0, hold off; the table, the counters of time, each
transaction and its assembly stay, and a head that a READ sends, as the model holds it to be from the look at the
queue on (log 18), is sent to its end outside the queue. -/
def Obligations.DeviceResetJudged : Prop :=
  ∀ (p : Port) (tag line : Byte) (s : State), Free s p →
    ((∃ l, (s.line l).owner = some (otherPort p)) →
      exec (.deviceReset p tag line) s = .next (replied p tag 0x16 .notOwner
        [ownerByte s.line1.owner, hiByte s.line1.generation, loByte s.line1.generation, ownerByte s.line2.owner,
          hiByte s.line2.generation, loByte s.line2.generation] s))
    ∧ ((∀ l, (s.line l).owner ≠ some (otherPort p)) →
      ∃ t, exec (.deviceReset p tag line) s = .next t ∧ t.steps = s.steps ∧ t.pairs = s.pairs ∧ t.tick = s.tick
        ∧ t.pending = s.pending
        ∧ t.ring = { converter := .off, startTimer := none, waitList := [], keepWarm := none, judgedNow := false }
        ∧ (∀ l, (t.line l).owner = none
          ∧ (t.line l).generation
              = (if (s.line l).owner = some p then (s.line l).generation + 1 else (s.line l).generation)
          ∧ (t.line l).ms = (s.line l).ms ∧ (t.line l).events = [] ∧ (t.line l).sup.feed = .normal
          ∧ (t.line l).sup.state = .onHook ∧ (t.line l).sup.samples = (s.line l).sup.samples
          ∧ (t.line l).sup.filteredOffHook = (s.line l).sup.filteredOffHook ∧ (t.line l).cad.kind = .none
          ∧ (t.line l).cid.loaded = none ∧ (t.line l).cid.state = .idle ∧ (t.line l).buf.state = .closed
          ∧ storedCount (t.line l).buf.slots = 0 ∧ (t.line l).buf.splicePending = false
          ∧ (t.line l).chan.requestedClass = .voice ∧ (t.line l).chan.agreement = .advertise
          ∧ (t.line l).chan.mode = .v8 ∧ (t.line l).det = Detectors.reset ∧ ∀ k ∈ (t.line l).ctr.list, k = 0)
        ∧ (t.port p).outbound = [.reply { tag := tag, code := 0x16, result := .ok, data := [] }]
        ∧ (t.port (otherPort p)).outbound = []
        ∧ ∀ q, (t.port q).fifo = [] ∧ (∀ n, isLatched (t.port q).flags n = decide (n = .resetDone))
          ∧ (t.port q).mask = 0xFFFF ∧ (t.port q).pointer = 0 ∧ (t.port q).hold = none
          ∧ (t.port q).malformedMedia = 0 ∧ (t.port q).foreign = 0 ∧ (t.port q).lostCommands = 0
          ∧ (t.port q).cutMessages = 0 ∧ (t.port q).transaction = (s.port q).transaction
          ∧ (t.port q).assembly = (s.port q).assembly
          ∧ ∀ m ms, (s.port q).sending = .head → (s.port q).outbound = m :: ms → (t.port q).sending = .departed m)

/-- TABLE_POINTER sets the sending port's pointer, an index above 79 being refused RANGE. Where it executes at once: an
index up to 79 is answered OK with the new pointer, the sending port's pointer being the index and nothing else
differing, hold state and recorded value among it; an index above 79 is answered RANGE and nothing else differs. -/
def Obligations.TablePointerMoves : Prop :=
  ∀ (p : Port) (tag line index : Byte) (s : State), Free s p →
    (∀ h : index.toNat < 80, exec (.tablePointer p tag line index) s
      = .next (replied p tag 0x50 .ok [index] (s.modPort p fun q => { q with pointer := ⟨index.toNat, h⟩ })))
    ∧ (79 < index.toNat → exec (.tablePointer p tag line index) s = .next (replied p tag 0x50 .range [] s))

/-- TABLE_WRITE stores one clamped entry at the pointer, leaves every other entry, and advances the pointer. Where it
executes at once: at a pointer below 64 with an action byte up to 5, the step is stored with tone, duration, target
and count clamped, a RING step's duration to at most 300; an action above 5 is answered RANGE with nothing done; at 64
and above the pair is stored with both frequencies clamped to 3400 and the attenuation to 30. The reply gives the
index and the entry as stored, the pointer advances, from 79 to 0, and no other entry differs. -/
def Obligations.TableWriteStoresClamped : Prop :=
  ∀ (p : Port) (tag line e0 e1 e2 e3 e4 e5 : Byte) (s : State), Free s p →
    (∀ h : (s.port p).pointer.val < 64, ∀ a, actionByte a = e0 →
      ∃ e : CadenceStep, e.action = a ∧ e.tone.val = min 15 e1.toNat
        ∧ e.duration = max 1 (min (if a = .ring then 300 else 2000) (e2.toNat * 256 + e3.toNat))
        ∧ e.target.val = min 63 e4.toNat ∧ e.count = e5.toNat
        ∧ exec (.tableWrite p tag line e0 e1 e2 e3 e4 e5) s = .next (replied p tag 0x51 .ok
            (byteOf (s.port p).pointer.val :: [e0, byteOf e.tone.val, hiByte (BitVec.ofNat 16 e.duration),
              loByte (BitVec.ofNat 16 e.duration), byteOf e.target.val, e5])
            ({ s with steps := s.steps.set (s.port p).pointer.val e }.modPort p fun q =>
              { q with pointer := q.pointer + 1 })))
    ∧ ((s.port p).pointer.val < 64 → 5 < e0.toNat →
      exec (.tableWrite p tag line e0 e1 e2 e3 e4 e5) s = .next (replied p tag 0x51 .range [] s))
    ∧ ∀ h : (s.port p).pointer.val - 64 < 16, 64 ≤ (s.port p).pointer.val →
      ∃ q : TonePair, q.f1 = min 3400 (e0.toNat * 256 + e1.toNat) ∧ q.f2 = min 3400 (e2.toNat * 256 + e3.toNat)
        ∧ q.attenuation = min 30 e4.toNat
        ∧ exec (.tableWrite p tag line e0 e1 e2 e3 e4 e5) s = .next (replied p tag 0x51 .ok
            (byteOf (s.port p).pointer.val :: [hiByte (BitVec.ofNat 16 q.f1), loByte (BitVec.ofNat 16 q.f1),
              hiByte (BitVec.ofNat 16 q.f2), loByte (BitVec.ofNat 16 q.f2), byteOf q.attenuation, 0])
            ({ s with pairs := s.pairs.set ((s.port p).pointer.val - 64) q }.modPort p fun r =>
              { r with pointer := r.pointer + 1 }))

/-- TABLE_READ returns the entry at the pointer; hold keeps the pointer for reads and TABLE_END brings it back. Where they
execute at once: TABLE_READ is answered OK with the index and the six bytes of the step or pair there, the pointer
advancing with hold off, from 79 to 0, and staying with hold on; TABLE_HOLD with hold off records the pointer and
gives it, with hold on it is answered WRONG_STATE; TABLE_END with hold on returns the pointer to the recorded value,
gives it and ends hold, with hold off it is answered WRONG_STATE. Nothing else differs. -/
def Obligations.TableReadAndHold : Prop :=
  ∀ (p : Port) (tag line : Byte) (s : State), Free s p →
    (∀ data : List Byte,
      ((∀ h : (s.port p).pointer.val < 64, ∀ e, s.steps[(s.port p).pointer.val] = e →
          data = byteOf (s.port p).pointer.val :: [actionByte e.action, byteOf e.tone.val,
            hiByte (BitVec.ofNat 16 e.duration), loByte (BitVec.ofNat 16 e.duration), byteOf e.target.val,
            byteOf e.count])
        ∧ (∀ h : (s.port p).pointer.val - 64 < 16, 64 ≤ (s.port p).pointer.val →
          ∀ q, s.pairs[(s.port p).pointer.val - 64] = q →
          data = byteOf (s.port p).pointer.val :: [hiByte (BitVec.ofNat 16 q.f1), loByte (BitVec.ofNat 16 q.f1),
            hiByte (BitVec.ofNat 16 q.f2), loByte (BitVec.ofNat 16 q.f2), byteOf q.attenuation, 0])) →
      exec (.tableRead p tag line) s = .next (replied p tag 0x52 .ok data
        (s.modPort p fun q => { q with pointer := if q.hold = none then q.pointer + 1 else q.pointer })))
    ∧ ((s.port p).hold = none →
      exec (.tableHold p tag line) s = .next (replied p tag 0x53 .ok [byteOf (s.port p).pointer.val]
          (s.modPort p fun q => { q with hold := some q.pointer }))
      ∧ exec (.tableEnd p tag line) s = .next (replied p tag 0x54 .wrongState [] s))
    ∧ ∀ i, (s.port p).hold = some i →
      exec (.tableHold p tag line) s = .next (replied p tag 0x53 .wrongState [] s)
      ∧ exec (.tableEnd p tag line) s
          = .next (replied p tag 0x54 .ok [byteOf i.val] (s.modPort p fun q => { q with pointer := i, hold := none }))

/-- SET_FEED sets, removes and applies the feed with its effects on cadences and converter, or is refused. Where it
executes at once for the owner: a mode byte above 3 is answered RANGE; STANDBY in OFF_HOOK, in BREAK and with a ring
cadence, WRONG_STATE; the mode already set changes nothing. A change among NORMAL, REVERSED and STANDBY sets the
field, during a loop fault too. OFF with no digit active and the tone detectors at rest with the channel leaves the
line DOWN with nothing timed, its tone cadence ended, no supervisor event stored; a running ring cadence stops as by
RING_STOP, with no keep-warm timer then running: burst ended or request withdrawn, the record discarded, CID_ABORTED
stored where a transmission was in progress. A feed applied from OFF makes the line ON_HOOK, a qualification starting
where the filtered state is off-hook and the overcurrent timer where the input is set (log 10). Each change that
leaves neither feed full turns a kept-warm converter OFF, and one at the moment of the last ring cadence's end is
judged with it (log 35). Nothing else differs. -/
def Obligations.FeedFollowsSetFeed : Prop :=
  ∀ (p : Port) (tag mode : Byte) (l : Line) (s : State), Free s p → (s.line l).owner = some p →
    (3 < mode.toNat → exec (.setFeed p tag (lineByte l) mode) s = .next (replied p tag 0x20 .range [] s))
    ∧ (mode = 2 → ((s.line l).sup.state = .offHook ∨ (s.line l).sup.state = .inBreak ∨ (s.line l).cad.kind = .ring) →
      exec (.setFeed p tag (lineByte l) mode) s = .next (replied p tag 0x20 .wrongState [] s))
    ∧ ∀ m, feedByte m = mode →
      ¬ (m = .standby ∧ ((s.line l).sup.state = .offHook ∨ (s.line l).sup.state = .inBreak ∨ (s.line l).cad.kind = .ring)) →
      ((s.line l).sup.feed = m → exec (.setFeed p tag (lineByte l) mode) s = .next (replied p tag 0x20 .ok [] s))
      ∧ ((s.line l).sup.feed ≠ m → m ≠ .off → (s.line l).sup.feed ≠ .off →
        exec (.setFeed p tag (lineByte l) mode) s = .next (replied p tag 0x20 .ok []
          { s.modSup l (fun v => { v with feed := m }) with ring := feedJudged l m s }))
      ∧ ((s.line l).sup.feed ≠ .off → m = .off → Quiet (s.line l) →
        ∃ u, exec (.setFeed p tag (lineByte l) mode) s = .next (replied p tag 0x20 .ok [] u)
          ∧ (u.line l).sup.feed = .off ∧ Unfed (s.line l).sup (u.line l).sup
          ∧ (u.line l).sup.retryTimer = none ∧ (u.line l).sup.seriesOpen = false
          ∧ (u.line l).sup.chatter = (s.line l).sup.chatter ∧ (u.line l).cad.kind = .none
          ∧ TableKept (s.line l) (u.line l) ∧ CallKept (s.line l) (u.line l) ∧ RestSame s u
          ∧ ((s.line l).cad.kind ≠ .ring → (u.line l).events = (s.line l).events ∧ (u.line l).cid = (s.line l).cid
            ∧ u.ring = feedJudged l .off s ∧ u.line (otherLine l) = s.line (otherLine l) ∧ u.portA = s.portA
            ∧ u.portB = s.portB)
          ∧ ((s.line l).cad.kind = .ring → s.ring.keepWarm = none → ListSound l s →
            (u.line l).events = afterAbort (s.line l) ∧ (u.line l).cid.loaded = none ∧ (u.line l).cid.state = .idle
            ∧ u.ring = ringStopped l .off s ∧ u.line (otherLine l) = otherAfterStop l s
            ∧ ((s.line l).cid.state ≠ .idle → Noticed l s u) ∧ ∀ q, OnlyFlags (s.port q) (u.port q)))
      ∧ ((s.line l).sup.feed = .off → m ≠ .off →
        exec (.setFeed p tag (lineByte l) mode) s = .next (replied p tag 0x20 .ok []
          { s.modSup l (fun v => { v with
              feed := m, state := .onHook
              qualification := if v.filteredOffHook
                then some { start := (s.line l).ms, offQualify := v.timing.offQualify } else none
              overcurrentTimer := if v.overcurrent then some (s.line l).ms else none }) with
            ring := feedJudged l m s }))

/-- SET_HOOK_TIMING stores the six clamped values, or refuses a wrong order with RANGE. Where it executes at once for the
owner: with the six values clamped to their ranges, flash_max against the clamped flash_min, and break_min below
pulse_max below flash_min, it is answered OK with the six values in force, which replace the line's and nothing else
differs; with break_min at or above pulse_max, or pulse_max at or above flash_min, it is answered RANGE and nothing
differs. -/
def Obligations.HookTimingClamped : Prop :=
  ∀ (p : Port) (tag : Byte) (l : Line) (a b c d e f : Word) (s : State), Free s p → (s.line l).owner = some p →
    ∀ t : HookTiming, t.offQualify = max 10 (min 200 a.toNat) → t.breakMin = max 5 (min 50 b.toNat) →
      t.pulseMax = max 40 (min 150 c.toNat) → t.flashMin = max 150 (min 1500 d.toNat) →
      t.flashMax = max t.flashMin (min 2000 e.toNat) → t.interdigit = max 150 (min 800 f.toNat) →
      (t.breakMin < t.pulseMax → t.pulseMax < t.flashMin →
        exec (.setHookTiming p tag (lineByte l) a b c d e f) s = .next (replied p tag 0x21 .ok
          ([t.offQualify, t.breakMin, t.pulseMax, t.flashMin, t.flashMax, t.interdigit].flatMap fun n =>
            [hiByte (BitVec.ofNat 16 n), loByte (BitVec.ofNat 16 n)])
          (s.modSup l fun v => { v with timing := t })))
      ∧ ((t.pulseMax ≤ t.breakMin ∨ t.flashMin ≤ t.pulseMax) →
        exec (.setHookTiming p tag (lineByte l) a b c d e f) s = .next (replied p tag 0x21 .range [] s))

/-- Hook readings are kept three deep, and a filtered edge starts or abandons a qualification or begins a break.
HOOK_SAMPLE keeps the last three readings, on-hook in DOWN, and sets the chatter mark where the middle differs from
both others while something is timed, not counting what the reading's own edge starts (log 38). A filtered off-hook
edge in ON_HOOK starts a qualification with the off_qualify in force. A filtered on-hook edge abandons it in ON_HOOK;
in OFF_HOOK it begins a break with the four parameters in force, the interdigit timer stopped and the count kept; in
DOWN it changes the filtered state alone. Nothing else differs. An edge row whose majority has not changed does
nothing (log 5). -/
def Obligations.HookReadingsAndEdges : Prop :=
  ∀ (l : Line) (s : State),
    (∀ off, exec (.hookSample l off) s = .next (s.modSup l fun v =>
      { v with
        samples := ⟨v.samples.middle, v.samples.newest, off && decide (v.state ≠ .down)⟩
        chatter := v.chatter || (decide (v.samples.newest ≠ v.samples.middle)
          && decide (v.samples.newest ≠ (off && decide (v.state ≠ .down)))
          && (v.qualification.isSome || v.breakRecord.isSome || v.interdigitTimer.isSome)) }))
    ∧ (offHookMajority (s.line l).sup.samples → (s.line l).sup.filteredOffHook = false →
      (s.line l).sup.state = .onHook →
      exec (.filteredOffHookEdge l) s = .next (s.modSup l fun v =>
        { v with filteredOffHook := true
                 qualification := some { start := (s.line l).ms, offQualify := v.timing.offQualify } }))
    ∧ (¬ offHookMajority (s.line l).sup.samples → (s.line l).sup.filteredOffHook = true →
      ((s.line l).sup.state = .onHook → exec (.filteredOnHookEdge l) s = .next (s.modSup l fun v =>
        { v with filteredOffHook := false, qualification := none }))
      ∧ ((s.line l).sup.state = .offHook → exec (.filteredOnHookEdge l) s = .next (s.modSup l fun v =>
        { v with filteredOffHook := false, state := .inBreak, interdigitTimer := none,
                 breakRecord := some
                   { start := (s.line l).ms, breakMin := v.timing.breakMin, pulseMax := v.timing.pulseMax,
                     flashMin := v.timing.flashMin, flashMax := v.timing.flashMax } }))
      ∧ ((s.line l).sup.state = .down → exec (.filteredOnHookEdge l) s = .next (s.modSup l fun v =>
        { v with filteredOffHook := false })))
    ∧ (¬ (offHookMajority (s.line l).sup.samples ∧ (s.line l).sup.filteredOffHook = false) →
      exec (.filteredOffHookEdge l) s = .next s)
    ∧ ((offHookMajority (s.line l).sup.samples ∨ (s.line l).sup.filteredOffHook = false) →
      exec (.filteredOnHookEdge l) s = .next s)

/-- A qualification that has lasted its time makes the line OFF_HOOK, by a ring trip while a ring cadence runs. In
ON_HOOK, with the tone detectors at rest with the channel: without a ring cadence, once the off-hook has lasted the
off_qualify taken at its start, the line is OFF_HOOK, STANDBY has become NORMAL, and OFF_HOOK is detected with the
chatter mark, then clear. With a ring cadence, once it has lasted 15 ms, the cadence ends, the line is neither driven
nor waiting, a loaded record is gone, and OFF_HOOK carries RING_TRIP, after CID_ABORTED if a transmission was in
progress; with the feed not STANDBY a waiting other line is granted and is else the same, and with no ring cadence
left the feeds are judged (log 35). A detected event joins the tail of the queue, or with 16 held is lost with OVERRUN
set on the newest record; its notice is latched all the same, at the owner or at both ports. The call is the same;
without a ring cadence the other line is too. -/
def Obligations.OffHookQualifies : Prop :=
  ∀ (l : Line) (s : State) (q : Qualification), (s.line l).sup.state = .onHook →
    (s.line l).sup.qualification = some q → TonesRest (s.line l) →
    ((s.line l).cad.kind ≠ .ring → q.offQualify ≤ ((s.line l).ms - q.start).toNat →
      ∃ u, exec (.offHookQualified l) s = .next u
        ∧ (u.line l).sup = { (s.line l).sup with
            state := .offHook, qualification := none, chatter := false
            feed := if (s.line l).sup.feed = .standby then .normal else (s.line l).sup.feed }
        ∧ (u.line l).events
            = recorded (s.line l).events (eventNow (s.line l) .offHook 0 0 (s.line l).sup.chatter false)
        ∧ u.ring = (if (s.line l).sup.feed = .standby then feedJudged l .normal s else s.ring)
        ∧ CallKept (s.line l) (u.line l) ∧ (u.line l).cad = (s.line l).cad ∧ (u.line l).cid = (s.line l).cid
        ∧ TableKept (s.line l) (u.line l) ∧ u.line (otherLine l) = s.line (otherLine l) ∧ RestSame s u
        ∧ Noticed l s u ∧ ∀ p, OnlyFlags (s.port p) (u.port p))
    ∧ ((s.line l).cad.kind = .ring → 15 ≤ ((s.line l).ms - q.start).toNat → ListSound l s →
      ∃ u, exec (.offHookQualified l) s = .next u
        ∧ (u.line l).sup.state = .offHook ∧ (u.line l).sup.qualification = none ∧ (u.line l).cad.kind = .none
        ∧ u.ring.converter ≠ .driving l ∧ l ∉ u.ring.waitList ∧ (u.line l).cid.loaded = none
        ∧ (u.line l).cid.state = .idle
        ∧ (u.line l).events
            = recorded (afterAbort (s.line l)) (eventNow (s.line l) .offHook 0 0 (s.line l).sup.chatter true)
        ∧ ((s.line l).sup.feed ≠ .standby →
          u.ring = ringStopped l (s.line l).sup.feed s ∧ u.line (otherLine l) = otherAfterStop l s)
        ∧ CallKept (s.line l) (u.line l) ∧ TableKept (s.line l) (u.line l) ∧ RestSame s u
        ∧ Noticed l s u ∧ ∀ p, OnlyFlags (s.port p) (u.port p))

/-- A return edge classifies its break by the parameters the break took. In BREAK, a filtered off-hook edge after a break
of length b not above its flash_max makes the line OFF_HOOK: below break_min no event, a count above 0 restarting the
interdigit timer; up to pulse_max the count is increased, to at most 11, and the timer restarted; below flash_min
BREAK_INVALID, the count discarded; from flash_min FLASH with duration b, after the pending digit: PULSE_DIGIT of the
count, 0 for ten, BREAK_INVALID for eleven. The first of the events carries the chatter mark; an event detected with
16 held is lost with OVERRUN on the newest, its notice latched all the same. The call, the cadence and the other line
are the same. -/
def Obligations.BreakClassified : Prop :=
  ∀ (l : Line) (s : State) (r : BreakRecord) (b : Nat), (s.line l).sup.state = .inBreak →
    (s.line l).sup.breakRecord = some r → offHookMajority (s.line l).sup.samples →
    (s.line l).sup.filteredOffHook = false → b = ((s.line l).ms - r.start).toNat → b ≤ r.flashMax →
    (b < r.breakMin → exec (.filteredOffHookEdge l) s = .next (s.modSup l fun v =>
      { v with filteredOffHook := true, state := .offHook, breakRecord := none
               interdigitTimer := if 0 < v.pulseCount
                 then some { start := (s.line l).ms, length := v.timing.interdigit } else v.interdigitTimer }))
    ∧ (r.breakMin ≤ b → b ≤ r.pulseMax → exec (.filteredOffHookEdge l) s = .next (s.modSup l fun v =>
      { v with filteredOffHook := true, state := .offHook, breakRecord := none
               pulseCount := min 11 (v.pulseCount + 1)
               interdigitTimer := some { start := (s.line l).ms, length := v.timing.interdigit } }))
    ∧ (r.breakMin ≤ b → r.pulseMax < b →
      ∃ u, exec (.filteredOffHookEdge l) s = .next u
        ∧ (u.line l).sup = { (s.line l).sup with
            filteredOffHook := true, state := .offHook, breakRecord := none, pulseCount := 0, interdigitTimer := none
            chatter := false }
        ∧ (b < r.flashMin → (u.line l).events
            = recorded (s.line l).events (eventNow (s.line l) .breakInvalid 0 0 (s.line l).sup.chatter false))
        ∧ (r.flashMin ≤ b → (s.line l).sup.pulseCount = 0 → (u.line l).events
            = recorded (s.line l).events (eventNow (s.line l) .flash 0 (BitVec.ofNat 16 b) (s.line l).sup.chatter false))
        ∧ (r.flashMin ≤ b → ∀ n, (s.line l).sup.pulseCount = n → 0 < n → n ≤ 11 → (u.line l).events
            = recorded (recorded (s.line l).events (eventNow (s.line l) (if n = 11 then .breakInvalid else .pulseDigit)
                (if 9 < n then 0 else byteOf n) 0 (s.line l).sup.chatter false))
              (eventNow (s.line l) .flash 0 (BitVec.ofNat 16 b) false false))
        ∧ CallKept (s.line l) (u.line l) ∧ (u.line l).cad = (s.line l).cad ∧ (u.line l).cid = (s.line l).cid
        ∧ (u.line l).det = (s.line l).det ∧ TableKept (s.line l) (u.line l) ∧ Noticed l s u ∧ ElseSame l s u
        ∧ ∀ p, OnlyFlags (s.port p) (u.port p))

/-- A break that reaches its flash_max is a hang-up. In BREAK with no digit active, the tone detectors at rest with the
channel and no ring cadence, once the break has lasted the flash_max it took: the line is ON_HOOK, the break record
and a pending count are gone, a tone cadence has ended, and ON_HOOK is detected with that flash_max as duration and
the chatter mark, then clear: stored, or with 16 held lost with OVERRUN on the newest, its notice latched all the
same; the call, the caller-ID and everything outside the line but notice flags are the same. -/
def Obligations.HangUpAtFlashMax : Prop :=
  ∀ (l : Line) (s : State) (r : BreakRecord), (s.line l).sup.state = .inBreak →
    (s.line l).sup.breakRecord = some r → r.flashMax ≤ ((s.line l).ms - r.start).toNat →
    Quiet (s.line l) → (s.line l).cad.kind ≠ .ring →
    ∃ u, exec (.hangUp l) s = .next u
      ∧ (u.line l).sup = { (s.line l).sup with
          state := .onHook, breakRecord := none, pulseCount := 0, interdigitTimer := none, chatter := false }
      ∧ (u.line l).cad.kind = .none
      ∧ (u.line l).events = recorded (s.line l).events
          (eventNow (s.line l) .onHook 0 (BitVec.ofNat 16 r.flashMax) (s.line l).sup.chatter false)
      ∧ CallKept (s.line l) (u.line l) ∧ (u.line l).cid = (s.line l).cid ∧ TableKept (s.line l) (u.line l)
      ∧ Noticed l s u ∧ ElseSame l s u ∧ ∀ p, OnlyFlags (s.port p) (u.port p)

/-- At the interdigit expiry the pending pulse digit is stored and the count becomes 0. Once the interdigit timer has run
the value it took and the count is 1 to 11: PULSE_DIGIT is detected with the count, 0 for ten, or BREAK_INVALID for
eleven, with the chatter mark, then clear, stored or with 16 held lost with OVERRUN on the newest, its notice latched
all the same; count and timer are cleared and nothing else differs but notice flags. Before the expiry nothing happens
(log 5). -/
def Obligations.InterdigitEmitsDigit : Prop :=
  ∀ (l : Line) (s : State) (t : Timer) (n : Nat), (s.line l).sup.interdigitTimer = some t →
    (s.line l).sup.pulseCount = n → 0 < n → n ≤ 11 →
    (t.length ≤ ((s.line l).ms - t.start).toNat →
      ∃ u, exec (.interdigitExpiry l) s = .next u
        ∧ u.line l = { s.line l with
            sup := { (s.line l).sup with pulseCount := 0, interdigitTimer := none, chatter := false }
            events := recorded (s.line l).events (eventNow (s.line l) (if n = 11 then .breakInvalid else .pulseDigit)
              (if 9 < n then 0 else byteOf n) 0 (s.line l).sup.chatter false) }
        ∧ Noticed l s u ∧ ElseSame l s u ∧ ∀ p, OnlyFlags (s.port p) (u.port p))
    ∧ (((s.line l).ms - t.start).toNat < t.length → exec (.interdigitExpiry l) s = .next s)

/-- Overcurrent is timed on a fed line, and 50 ms of it make a loop fault. OVERCURRENT_START on a fed line whose timer is
stopped starts it, OVERCURRENT_END stops it, and nothing else differs but the input's own mark (log 10). On a fed line
whose timer has run 50 ms, with no digit active and the tone detectors at rest with the channel, LOOP_FAULT leaves the
line DOWN with nothing timed, the feed mode field kept and the retry timer started; a tone cadence has ended; a ring
cadence has stopped as by RING_STOP: burst ended or request withdrawn, the record discarded, CID_ABORTED detected
where a transmission was in progress, keep-warm judged on the kept field (log 35); then LOOP_FAULT is detected with
the chatter mark and the series opened if it was closed, else no LOOP_FAULT. An event is stored, or with 16 held lost
with OVERRUN on the newest. The call and everything else are the same but notice flags. -/
def Obligations.LoopFaultRemovesFeed : Prop :=
  ∀ (l : Line) (s : State), (s.line l).sup.state ≠ .down →
    ((s.line l).sup.overcurrentTimer = none → exec (.overcurrentStart l) s = .next (s.modSup l fun v =>
      { v with overcurrent := true, overcurrentTimer := some (s.line l).ms }))
    ∧ (exec (.overcurrentEnd l) s = .next (s.modSup l fun v =>
      { v with overcurrent := false, overcurrentTimer := none }))
    ∧ ∀ t, (s.line l).sup.overcurrentTimer = some t → 50 ≤ ((s.line l).ms - t).toNat → Quiet (s.line l) →
      ∃ u, exec (.loopFault l) s = .next u ∧ Unfed (s.line l).sup (u.line l).sup
        ∧ (u.line l).sup.feed = (s.line l).sup.feed ∧ (u.line l).sup.retryTimer = some (s.line l).ms
        ∧ (u.line l).sup.seriesOpen = true ∧ (u.line l).cad.kind = .none
        ∧ ((s.line l).sup.seriesOpen = true → (u.line l).sup.chatter = (s.line l).sup.chatter)
        ∧ ((s.line l).sup.seriesOpen = false → (u.line l).sup.chatter = false ∧ Noticed l s u)
        ∧ CallKept (s.line l) (u.line l) ∧ TableKept (s.line l) (u.line l) ∧ RestSame s u
        ∧ (∀ p, OnlyFlags (s.port p) (u.port p))
        ∧ (∀ before : List EventRecord,
          (before = if (s.line l).cad.kind = .ring then afterAbort (s.line l) else (s.line l).events) →
          ((s.line l).sup.seriesOpen = true → (u.line l).events = before)
          ∧ ((s.line l).sup.seriesOpen = false → (u.line l).events
            = recorded before (eventNow (s.line l) .loopFault 0 0 (s.line l).sup.chatter false)))
        ∧ ((s.line l).cad.kind = .none → (u.line l).cad = (s.line l).cad)
        ∧ ((s.line l).cad.kind ≠ .ring → (u.line l).cid = (s.line l).cid ∧ u.ring = s.ring
          ∧ u.line (otherLine l) = s.line (otherLine l))
        ∧ ((s.line l).cad.kind = .ring → ListSound l s →
          (u.line l).cid.loaded = none ∧ (u.line l).cid.state = .idle
          ∧ u.ring = ringStopped l (s.line l).sup.feed s ∧ u.line (otherLine l) = otherAfterStop l s)

/-- A retry restores the feed with its check, and a check without a fault closes the series. Once the retry timer has run
1000 ms, the line is ON_HOOK with its feed mode field kept, the restore check started, the overcurrent timer started
if the current is above the limit (log 10), and a qualification started if the filtered state is off-hook; nothing
else differs. Once the check has run 50 ms, FEED_RESTORED is detected with the chatter mark, then clear: stored, or
with 16 held lost with OVERRUN on the newest, its notice latched all the same; the check is stopped and the series
closed; nothing else differs but notice flags. -/
def Obligations.FaultRetryAndRestore : Prop :=
  ∀ (l : Line) (s : State) (t : Word),
    ((s.line l).sup.retryTimer = some t → 1000 ≤ ((s.line l).ms - t).toNat →
      exec (.faultRetryExpiry l) s = .next (s.modSup l fun v =>
        { v with state := .onHook, retryTimer := none, restoreCheck := some (s.line l).ms
                 qualification := if v.filteredOffHook
                   then some { start := (s.line l).ms, offQualify := v.timing.offQualify } else none
                 overcurrentTimer := if v.overcurrent then some (s.line l).ms else none }))
    ∧ ((s.line l).sup.restoreCheck = some t → 50 ≤ ((s.line l).ms - t).toNat →
      ∃ u, exec (.feedRestored l) s = .next u
        ∧ u.line l = { s.line l with
            sup := { (s.line l).sup with restoreCheck := none, seriesOpen := false, chatter := false }
            events := recorded (s.line l).events (eventNow (s.line l) .feedRestored 0 0 (s.line l).sup.chatter false) }
        ∧ Noticed l s u ∧ ElseSame l s u ∧ ∀ p, OnlyFlags (s.port p) (u.port p))

/-- RING_START on an ON_HOOK line starts its cadence and its ring request, and is refused elsewhere. Where it executes at
once for the owner: outside ON_HOOK it is answered WRONG_STATE, with a step above 63 RANGE, nothing done. ON_HOOK,
with no last ring cadence's end marked at this moment (log 35): the cadence is RING at the given step, STANDBY has
become NORMAL, the keep-warm timer is stopped. With no cadence and no qualification of 15 ms or more, at a RING step:
a converter OFF with nobody waiting is STARTING and the line waits, the step timer stopped; one READY with nobody
waiting, kept warm or not, drives the line, its step timer running the duration; one STARTING or DRIVING puts the line
at the tail of the list. At a QUIET step the timer runs at once. A ring cadence that runs with no transmission is
stopped first and its record discarded: in BURST with nobody waiting the line is granted anew, with the other line
waiting that line is granted and this one waits; a waiting line goes to the tail. A qualification of 15 ms or more
completes at once as a ring trip, the start going on. Nothing else differs. -/
def Obligations.RingStartRequests : Prop :=
  ∀ (p : Port) (tag step : Byte) (l : Line) (s : State), Free s p → (s.line l).owner = some p →
    ((s.line l).sup.state ≠ .onHook →
      exec (.ringStart p tag (lineByte l) step) s = .next (replied p tag 0x30 .wrongState [] s))
    ∧ ((s.line l).sup.state = .onHook → 63 < step.toNat →
      exec (.ringStart p tag (lineByte l) step) s = .next (replied p tag 0x30 .range [] s))
    ∧ ∀ (i : Fin 64) (e : CadenceStep) (feed : FeedMode) (now : Option Timer), i.val = step.toNat → s.steps[i] = e →
      (s.line l).sup.state = .onHook → s.ring.judgedNow = false →
      feed = (if (s.line l).sup.feed = .standby then .normal else (s.line l).sup.feed) →
      now = some { start := (s.line l).ms, length := 10 * e.duration } →
      ((s.line l).cad.kind = .none → (∀ q, (s.line l).sup.qualification = some q → ((s.line l).ms - q.start).toNat < 15) →
        (e.action = .ring → s.ring.waitList = [] → s.ring.converter = .off →
          exec (.ringStart p tag (lineByte l) step) s = .next (replied p tag 0x30 .ok []
            { s.modLine l (fun x => { x with sup := { x.sup with feed := feed }, cad := ringBegun i e none x.cad }) with
              ring := { s.ring with converter := .starting, startTimer := some 0, waitList := [l], keepWarm := none } }))
        ∧ (e.action = .ring → s.ring.waitList = [] → s.ring.converter = .ready →
          exec (.ringStart p tag (lineByte l) step) s = .next (replied p tag 0x30 .ok []
            { s.modLine l (fun x => { x with sup := { x.sup with feed := feed }, cad := ringBegun i e now x.cad }) with
              ring := { s.ring with converter := .driving l, keepWarm := none } }))
        ∧ (e.action = .ring → s.ring.keepWarm = none →
          (s.ring.converter = .starting ∨ s.ring.converter = .driving (otherLine l)) →
          exec (.ringStart p tag (lineByte l) step) s = .next (replied p tag 0x30 .ok []
            { s.modLine l (fun x => { x with sup := { x.sup with feed := feed }, cad := ringBegun i e none x.cad }) with
              ring := { s.ring with waitList := s.ring.waitList ++ [l] } }))
        ∧ (e.action = .quiet →
          exec (.ringStart p tag (lineByte l) step) s = .next (replied p tag 0x30 .ok []
            { s.modLine l (fun x => { x with sup := { x.sup with feed := feed }, cad := ringBegun i e now x.cad }) with
              ring := { s.ring with keepWarm := none } })))
      ∧ ((s.line l).cad.kind = .ring → (∀ q, (s.line l).sup.qualification = some q → ((s.line l).ms - q.start).toNat < 15) →
        (s.line l).cid.state = .idle → fullFeed (s.line l).sup.feed = true → s.ring.keepWarm = none → e.action = .ring →
        ∀ silent : CallerIdTx,
        silent = { (s.line l).cid with loaded := none, bitPos := 0, accumulator := 0, samplesLeft := 0 } →
        (s.ring.converter = .driving l → s.ring.waitList = [] →
          exec (.ringStart p tag (lineByte l) step) s = .next (replied p tag 0x30 .ok []
            (s.modLine l fun x => { x with cid := silent, cad := ringBegun i e now x.cad })))
        ∧ (s.ring.converter = .driving l → s.ring.waitList = [otherLine l] →
          exec (.ringStart p tag (lineByte l) step) s = .next (replied p tag 0x30 .ok []
            { (s.modLine l fun x => { x with cid := silent, cad := ringBegun i e none x.cad }).modLine (otherLine l)
                granted with
              ring := { s.ring with converter := .driving (otherLine l), waitList := [l] } }))
        ∧ ((s.ring.converter = .starting ∨ s.ring.converter = .driving (otherLine l)) →
          exec (.ringStart p tag (lineByte l) step) s = .next (replied p tag 0x30 .ok []
            { s.modLine l (fun x => { x with cid := silent, cad := ringBegun i e none x.cad }) with
              ring := { s.ring with waitList := (s.ring.waitList.filter fun k => k ≠ l) ++ [l] } })))
      ∧ (∀ q, (s.line l).cad.kind = .none → (s.line l).sup.qualification = some q → 15 ≤ ((s.line l).ms - q.start).toNat →
        TonesRest (s.line l) → (s.line l).cid.state = .idle → e.action = .ring → s.ring.waitList = [] →
        s.ring.converter = .off →
        ∃ u, exec (.ringStart p tag (lineByte l) step) s = .next (replied p tag 0x30 .ok [] u)
          ∧ (u.line l).sup = { (s.line l).sup with state := .offHook, qualification := none, feed := feed, chatter := false }
          ∧ (u.line l).cad.kind = .none ∧ (u.line l).cid.loaded = none
          ∧ (u.line l).events
              = recorded (s.line l).events (eventNow (s.line l) .offHook 0 0 (s.line l).sup.chatter true)
          ∧ u.ring = { s.ring with converter := .starting, startTimer := some 0, keepWarm := none }
          ∧ CallKept (s.line l) (u.line l) ∧ TableKept (s.line l) (u.line l)
          ∧ u.line (otherLine l) = s.line (otherLine l) ∧ RestSame s u ∧ Noticed l s u
          ∧ ∀ r, OnlyFlags (s.port r) (u.port r))

/-- RING_STOP ends the ring cadence with its burst or request, and else changes nothing. Where it executes at once for the
owner: with no ring cadence it is answered OK and nothing else differs. With one, and no qualification that has lasted
its off_qualify: the cadence is ended; a loaded record is discarded without an event, and a transmission in progress
is aborted with CID_ABORTED; a line in BURST leaves the converter READY, a waiting other line being granted at once; a
waiting line leaves the list, a start going on; with no ring cadence left, the converter READY and nobody waiting, the
feeds are judged: keeping warm, or OFF (log 35). Nothing else differs but notice flags. -/
def Obligations.RingStopEnds : Prop :=
  ∀ (p : Port) (tag : Byte) (l : Line) (s : State), Free s p → (s.line l).owner = some p →
    ((s.line l).cad.kind ≠ .ring →
      exec (.ringStop p tag (lineByte l)) s = .next (replied p tag 0x31 .ok [] s))
    ∧ ((s.line l).cad.kind = .ring → ListSound l s →
      (∀ q, (s.line l).sup.qualification = some q → ((s.line l).ms - q.start).toNat < q.offQualify) →
      ∃ u, exec (.ringStop p tag (lineByte l)) s = .next (replied p tag 0x31 .ok [] u)
        ∧ (u.line l).cad.kind = .none ∧ (u.line l).cad.timer = none ∧ (u.line l).cad.loop = none
        ∧ (u.line l).cid.loaded = none ∧ (u.line l).cid.state = .idle ∧ (u.line l).cid.bitPos = 0
        ∧ (u.line l).events = afterAbort (s.line l)
        ∧ (u.line l).sup = (s.line l).sup ∧ (u.line l).det = (s.line l).det ∧ CallKept (s.line l) (u.line l)
        ∧ TableKept (s.line l) (u.line l) ∧ RestSame s u
        ∧ u.ring = ringStopped l (s.line l).sup.feed s ∧ u.line (otherLine l) = otherAfterStop l s
        ∧ (∀ q, OnlyFlags (s.port q) (u.port q)) ∧ ((s.line l).cid.state ≠ .idle → Noticed l s u)
        ∧ ((s.line l).cid.state = .idle → u.portA = s.portA ∧ u.portB = s.portB))

/-- TONE_START runs a tone cadence off-hook, and TONE_STOP ends it. Where they execute at once for the owner: TONE_START
in ON_HOOK or DOWN is answered WRONG_STATE, with a step above 63 RANGE. In OFF_HOOK or BREAK with no cadence, at a
TONE step: the cadence is TONE at that step with the step's pair in hand, both phases zero and the timer running the
step's duration, and nothing else differs. TONE_STOP on a tone cadence leaves none running, index and current step
held as 0 (log 33), and with none it changes nothing. -/
def Obligations.ToneStartsAndStops : Prop :=
  ∀ (p : Port) (tag step : Byte) (l : Line) (s : State), Free s p → (s.line l).owner = some p →
    (((s.line l).sup.state = .onHook ∨ (s.line l).sup.state = .down) →
      exec (.toneStart p tag (lineByte l) step) s = .next (replied p tag 0x32 .wrongState [] s))
    ∧ (((s.line l).sup.state = .offHook ∨ (s.line l).sup.state = .inBreak) → 63 < step.toNat →
      exec (.toneStart p tag (lineByte l) step) s = .next (replied p tag 0x32 .range [] s))
    ∧ (∀ (i : Fin 64) (e : CadenceStep), i.val = step.toNat → s.steps[i] = e → e.action = .tone →
      ((s.line l).sup.state = .offHook ∨ (s.line l).sup.state = .inBreak) → (s.line l).cad.kind = .none →
      exec (.toneStart p tag (lineByte l) step) s = .next (replied p tag 0x32 .ok [] (s.modCad l fun c =>
        { kind := .tone, index := i, current := i, inHand := some { step := e, pair := some s.pairs[e.tone] },
          timer := some { start := (s.line l).ms, length := 10 * e.duration }, loop := none, zeroRun := 0, phase1 := 0,
          phase2 := 0 })))
    ∧ ((s.line l).cad.kind = .tone →
      exec (.toneStop p tag (lineByte l)) s = .next (replied p tag 0x33 .ok [] (s.modCad l fun c =>
        { c with kind := .none, index := 0, current := 0, inHand := none, timer := none, loop := none, zeroRun := 0 })))
    ∧ ((s.line l).cad.kind ≠ .tone →
      exec (.toneStop p tag (lineByte l)) s = .next (replied p tag 0x33 .ok [] s))

/-- At its step timer's expiry a cadence begins its next step of any action, a burst ending first. Once the step timer has
run, with step c current below 63 and its successor i. In a tone cadence: QUIET or RING at i begins with its timer
running; TONE begins with its pair in hand, phases zero, or kept where the step before sounded the same two
frequencies; CID is passed over; a JUMP goes to its target, loading the idle loop register where it counts; a JUMP
with count 0 to itself, a zero-time run of 64, and STOP end the cadence (index and step 0: log 33). In a ring cadence
not driven: QUIET or TONE begins with its timer; CID with a record starts the transmission, without one it is passed
over. In BURST the converter first becomes READY, a waiting other line being granted: then QUIET begins, a RING step
is granted at once or waits behind the other line, and STOP with no other ring cadence ends the last cadence, the
feeds being judged (log 35). Nothing else differs. Before the expiry nothing happens (log 5). -/
def Obligations.StepTimerAdvances : Prop :=
  ∀ (l : Line) (s : State) (t : Timer) (i : Fin 64) (e : CadenceStep), (s.line l).cad.timer = some t →
    i.val = (s.line l).cad.current.val + 1 → s.steps[i] = e →
    (((s.line l).ms - t.start).toNat < t.length → exec (.stepTimerExpiry l) s = .next s)
    ∧ (t.length ≤ ((s.line l).ms - t.start).toNat →
      ((s.line l).cad.kind = .tone → s.ring.converter ≠ .driving l →
        ((e.action = .quiet ∨ e.action = .ring) →
          exec (.stepTimerExpiry l) s = .next (s.modCad l (timedStep i e (s.line l).ms)))
        ∧ (e.action = .stop → exec (.stepTimerExpiry l) s = .next (s.modCad l noCadence))
        ∧ (e.action = .tone → ∀ h a b, (s.line l).cad.inHand = some h →
          TonePhases h.pair s.pairs[e.tone] (s.line l).cad a b →
          exec (.stepTimerExpiry l) s = .next (s.modCad l fun c =>
            { timedStep i e (s.line l).ms c with
              inHand := some { step := e, pair := some s.pairs[e.tone] }, phase1 := a, phase2 := b }))
        ∧ ((s.line l).cad.zeroRun = 0 →
          (e.action = .cid → ∀ (j : Fin 64) (g : CadenceStep), j.val = i.val + 1 → s.steps[j] = g → g.action = .quiet →
            exec (.stepTimerExpiry l) s = .next (s.modCad l (timedStep j g (s.line l).ms)))
          ∧ (e.action = .jump → ∀ g, s.steps[e.target] = g → g.action = .quiet →
            (e.count = 0 → exec (.stepTimerExpiry l) s = .next (s.modCad l (timedStep e.target g (s.line l).ms)))
            ∧ (1 ≤ e.count → (s.line l).cad.loop = none →
              exec (.stepTimerExpiry l) s = .next (s.modCad l fun c =>
                { timedStep e.target g (s.line l).ms c with loop := some { owner := i, remaining := e.count - 1 } })))
          ∧ (e.action = .jump → e.count = 0 → e.target = i →
            exec (.stepTimerExpiry l) s = .next (s.modCad l noCadence))))
      ∧ ((s.line l).cad.kind = .ring → s.ring.converter ≠ .driving l →
        ((e.action = .quiet ∨ e.action = .tone) →
          exec (.stepTimerExpiry l) s = .next (s.modCad l (timedStep i e (s.line l).ms)))
        ∧ (e.action = .cid → (s.line l).cid.loaded ≠ none →
          exec (.stepTimerExpiry l) s = .next (s.modLine l fun x => { x with
            cad := { timedStep i e x.ms x.cad with timer := none }
            cid := { x.cid with state := .seizure, bitPos := 0, accumulator := 0, samplesLeft := 0, phase := 0 } }))
        ∧ (e.action = .cid → (s.line l).cid.loaded = none → (s.line l).cad.zeroRun = 0 →
          ∀ (j : Fin 64) (g : CadenceStep), j.val = i.val + 1 → s.steps[j] = g → g.action = .quiet →
          exec (.stepTimerExpiry l) s = .next (s.modCad l (timedStep j g (s.line l).ms))))
      ∧ ((s.line l).cad.kind = .ring → s.ring.converter = .driving l →
        (s.ring.waitList = [] →
          (e.action = .quiet → exec (.stepTimerExpiry l) s = .next ((s.modCad l (timedStep i e (s.line l).ms)).modRing
            fun a => { a with converter := .ready }))
          ∧ (e.action = .ring → exec (.stepTimerExpiry l) s = .next ((s.modCad l (timedStep i e (s.line l).ms)).modRing
            fun a => { a with keepWarm := none }))
          ∧ (e.action = .stop → (s.line (otherLine l)).cad.kind ≠ .ring →
            exec (.stepTimerExpiry l) s = .next ((s.modCad l noCadence).modRing fun a =>
              judged (fullFeed (s.line l).sup.feed || fullFeed (s.line (otherLine l)).sup.feed)
                { a with converter := .ready })))
        ∧ (s.ring.waitList = [otherLine l] →
          (e.action = .quiet → exec (.stepTimerExpiry l) s = .next (((s.modCad l (timedStep i e (s.line l).ms)).modLine
              (otherLine l) granted).modRing fun a =>
            { a with converter := .driving (otherLine l), waitList := [], keepWarm := none }))
          ∧ (e.action = .ring → exec (.stepTimerExpiry l) s = .next (((s.modCad l fun c =>
              { timedStep i e (s.line l).ms c with timer := none }).modLine (otherLine l) granted).modRing fun a =>
            { a with converter := .driving (otherLine l), waitList := [l], keepWarm := none })))))

/-- A JUMP with count N jumps N times on N successive visits and goes on at the visit after. For every JUMP step with
count N of 1 to 255 and an idle loop register, or one held by another JUMP: visited N times it goes to its target each
time, and at the visit after it goes on to the next step with the register idle. -/
def Obligations.CountedJumpLoops : Prop :=
  ∀ (i : Fin 64) (e : CadenceStep) (r : Option LoopRegister), 1 ≤ e.count →
    (∀ g, r = some g → g.owner ≠ i) →
    (∀ n, n < e.count → (jump i e ((fun q => (jump i e q).2)^[n] r)).1 = some e.target)
    ∧ jump i e ((fun q => (jump i e q).2)^[e.count] r) = (nextStep i, none)

/-- The start timer makes the converter READY and serves the list; the keep-warm timer makes it OFF. Once the start timer
has run 50 ms: with the list's head l, l is granted: driven, out of the list, its step timer running the duration in
hand; with the list empty, no ring cadence and a full feed on either line, the converter is READY and keeping warm;
with neither feed full it is OFF. Once the keep-warm timer has run 5000 ms the converter is OFF. Nothing else differs,
and before either time nothing happens (log 5). -/
def Obligations.ConverterTimers : Prop :=
  ∀ (s : State),
    (∀ n, s.ring.startTimer = some n → 50 ≤ n →
      (∀ l rest h, s.ring.waitList = l :: rest → (s.line l).cad.inHand = some h →
        exec .startTimerExpiry s = .next ((s.modCad l fun c =>
            { c with timer := some { start := (s.line l).ms, length := 10 * h.step.duration } }).modRing fun _ =>
          { s.ring with converter := .driving l, startTimer := none, waitList := rest, keepWarm := none }))
      ∧ (s.ring.waitList = [] → (∀ l, (s.line l).cad.kind ≠ .ring) →
        exec .startTimerExpiry s = .next (s.modRing fun a =>
          if fullFeed s.line1.sup.feed = true ∨ fullFeed s.line2.sup.feed = true
          then { a with converter := .ready, startTimer := none, keepWarm := some 0 }
          else { a with converter := .off, startTimer := none, keepWarm := none })))
    ∧ (∀ n, s.ring.keepWarm = some n → 5000 ≤ n →
      exec .keepWarmExpiry s = .next (s.modRing fun a => { a with converter := .off, keepWarm := none }))
    ∧ ((∀ n, s.ring.startTimer = some n → n < 50) → exec .startTimerExpiry s = .next s)
    ∧ ((∀ n, s.ring.keepWarm = some n → n < 5000) → exec .keepWarmExpiry s = .next s)

/-- Every step keeps ringing on ON_HOOK lines fed NORMAL or REVERSED alone. A line with a ring cadence is ON_HOOK and
fully fed; a line with feed OFF is DOWN; a driven line, a waiting line and a transmitting line have a ring cadence,
and no line stands twice among them: from every state where this holds, a step that answers a next state leaves it so,
and there ringing voltage is on a loop only where supervision is ON_HOOK and the feed NORMAL or REVERSED, and on at
most one line. -/
def Obligations.RingKeptSound : Prop :=
  ∀ s t, RingSound s → step s = .next t → RingSound t ∧ RingingSafe t
    ∧ ∀ l m, loopSupply t l = .ringing → loopSupply t m = .ringing → l = m

/-- LOAD_CALLER_ID stores the record and forms its message, or is refused. Where it executes at once for the owner of an
ON_HOOK line with no transmission: a record with a date-time, a number of 1 to 15 digits and a name of 1 to 32
characters whose first 15 are printable is stored with the name's first 15, its message is the type, the length, the
three parameters and the checksum, and the reply gives the message's length and the transmission's length in samples;
nothing else differs. A record that gives only the number-absent reason PRIVATE forms 0x80 0x03 0x04 0x01 0x50 0x28
and 3600 samples. A record with both a number and its absent reason is answered MALFORMED; outside ON_HOOK or during a
transmission a record of the right form is answered WRONG_STATE. -/
def Obligations.CallerIdLoaded : Prop :=
  ∀ (p : Port) (tag month day hour minute r₁ r₂ : Byte) (number name : List Byte) (l : Line) (s : State), Free s p →
    (s.line l).owner = some p → 1 ≤ number.length → number.length ≤ 15 → 1 ≤ name.length → name.length ≤ 32 →
    ((s.line l).sup.state = .onHook → (s.line l).cid.state = .idle →
      1 ≤ month.toNat → month.toNat ≤ 12 → 1 ≤ day.toNat → day.toNat ≤ 31 → hour.toNat ≤ 23 → minute.toNat ≤ 59 →
      (∀ c ∈ number, 0x30 ≤ c.toNat ∧ c.toNat ≤ 0x39) → (∀ c ∈ name.take 15, 0x20 ≤ c.toNat ∧ c.toNat ≤ 0x7E) →
      ∃ m check, m = [0x80, byteOf (14 + number.length + (name.take 15).length)]
          ++ ([0x01, 8] ++ [month, day, hour, minute].flatMap (fun b => [byteOf (48 + b.toNat / 10), byteOf (48 + b.toNat % 10)]))
          ++ ([0x02, byteOf number.length] ++ number)
          ++ ([0x07, byteOf (name.take 15).length] ++ name.take 15) ++ [check]
        ∧ byteSum m = 0
        ∧ exec (.loadCallerId p tag (lineByte l) 1 month day hour minute r₁ r₂ number name) s = .next (replied p tag 0x34
            .ok [byteOf m.length, hiByte (BitVec.ofNat 16 (transmissionSamples m.length)),
              loByte (BitVec.ofNat 16 (transmissionSamples m.length))]
            (s.modCid l fun c => { c with loaded := some { message := m, record :=
              { dateTime := some { month := month, day := day, hour := hour, minute := minute },
                number := some (.given number), name := some (.given (name.take 15)) } } })))
    ∧ ((s.line l).sup.state = .onHook → (s.line l).cid.state = .idle →
      exec (.loadCallerId p tag (lineByte l) 2 month day hour minute 2 r₂ [] []) s = .next (replied p tag 0x34 .ok
        [6, 0x0E, 0x10] (s.modCid l fun c =>
          { c with
            loaded := some { message := [0x80, 0x03, 0x04, 0x01, 0x50, 0x28]
                             record := { dateTime := none, number := some (.absent .withheld), name := none } } })))
    ∧ exec (.loadCallerId p tag (lineByte l) 2 month day hour minute r₁ r₂ number name) s
        = .next (replied p tag 0x34 .malformed [] s)
    ∧ (((s.line l).sup.state ≠ .onHook ∨ (s.line l).cid.state ≠ .idle) →
      exec (.loadCallerId p tag (lineByte l) 1 month day hour minute r₁ r₂ number name) s
        = .next (replied p tag 0x34 .wrongState [] s))

/-- A caller-ID transmission ends exactly at the sample that its bits and the fraction accumulator give. For every loaded
message of n bytes: from the start of its transmission, after 20 samples for each three of its 480 + 10n bits, plus 6
for one bit over and 13 for two, the last stop bit has been sent, and after no fewer samples. The end is DATA at bit
10n, as the model holds it (log 24). -/
def Obligations.TransmissionLasts : Prop :=
  ∀ (c : CallerIdTx) (m : LoadedCallerId), c.loaded = some m →
    allSent (fskAdvance^[20 * ((480 + 10 * m.message.length) / 3)
      + (if (480 + 10 * m.message.length) % 3 = 1 then 6 else if (480 + 10 * m.message.length) % 3 = 2 then 13 else 0)]
      (startTransmission c)) = true
    ∧ ∀ k, k < 20 * ((480 + 10 * m.message.length) / 3)
      + (if (480 + 10 * m.message.length) % 3 = 1 then 6 else if (480 + 10 * m.message.length) % 3 = 2 then 13 else 0) →
      allSent (fskAdvance^[k] (startTransmission c)) = false

/-- A completed transmission stores CID_DONE, consumes the record and hands the step back. Once the last stop bit is sent
(log 24), with a ring cadence whose next step is QUIET: the transmitter is IDLE with its counts at 0 and no record,
CID_DONE is detected without flags, stored or with 16 held lost with OVERRUN on the newest, the QUIET step begins with
its timer running, and nothing else differs but notice flags. Before the last sample nothing happens (log 5). -/
def Obligations.CidDoneHandsBack : Prop :=
  ∀ (l : Line) (s : State) (m : LoadedCallerId) (i : Fin 64) (e : CadenceStep), (s.line l).cid.loaded = some m →
    (s.line l).cid.state = .data → (s.line l).cad.kind = .ring → i.val = (s.line l).cad.current.val + 1 →
    s.steps[i] = e → e.action = .quiet →
    (10 * m.message.length ≤ (s.line l).cid.bitPos →
      ∃ u, exec (.cidDone l) s = .next u
        ∧ u.line l = { s.line l with
            cid := { (s.line l).cid with loaded := none, state := .idle, bitPos := 0, accumulator := 0, samplesLeft := 0 }
            events := recorded (s.line l).events (eventNow (s.line l) .cidDone 0 0 false false)
            cad := { (s.line l).cad with
              current := i, inHand := some { step := e, pair := none }, zeroRun := 0
              timer := some { start := (s.line l).ms, length := 10 * e.duration } } }
        ∧ Noticed l s u ∧ ElseSame l s u ∧ ∀ p, OnlyFlags (s.port p) (u.port p))
    ∧ ((s.line l).cid.bitPos < 10 * m.message.length → exec (.cidDone l) s = .next s)

/-- CHANNEL_OPEN starts a call with its clamped parameters, or is refused. Where it executes at once for the owner: a
channel not CLOSED is answered WRONG_STATE; an ability byte that is empty or above 15 RANGE. Else, with the parameters
defaulted or clamped: OK with the values in force, relay on being sent as 1 (log 36); the channel holds them and the
ability set, class VOICE, V16 if in the set and else V8, ADVERTISE with everything absent, clear or 0 and the timer
started; the buffer is empty and PRIMING with P unset and no splice, its period under way kept; J16 (R25 step 7; log
37), S and F are 0, no last transit, T is Tmin; all 15 counters are 0; all five detectors run; and nothing else
differs: no notice is latched (log 13). -/
def Obligations.ChannelOpensCall : Prop :=
  ∀ (p : Port) (tag ability present : Byte) (tmin tmax target : Word) (kv kd relay trig : Byte) (l : Line) (s : State),
    Free s p → (s.line l).owner = some p →
    ((s.line l).buf.state ≠ .closed →
      exec (.channelOpen p tag (lineByte l) ability present tmin tmax target kv kd relay trig) s
        = .next (replied p tag 0x40 .wrongState [] s))
    ∧ ((s.line l).buf.state = .closed → (ability = 0 ∨ 15 < ability.toNat) →
      exec (.channelOpen p tag (lineByte l) ability present tmin tmax target kv kd relay trig) s
        = .next (replied p tag 0x40 .range [] s))
    ∧ ((s.line l).buf.state = .closed → ability ≠ 0 → ability.toNat ≤ 15 →
      ∀ q : ChannelParams,
        (present = 0 → q = { tmin := 160, tmax := 1600, dataTarget := 1600, kVoice := 4, kData := 6, relay := true,
                             triggerCng := true, triggerAns := true }) →
        (present ≠ 0 → q.tmin = max 80 (min 2400 tmin.toNat) ∧ q.tmax = max q.tmin (min 4800 tmax.toNat)
          ∧ q.dataTarget = max 400 (min 4800 target.toNat) ∧ q.kVoice = max 2 (min 8 kv.toNat)
          ∧ q.kData = max 2 (min 8 kd.toNat) ∧ (q.relay = true ↔ relay ≠ 0) ∧ q.triggerCng = trig.getLsbD 0
          ∧ q.triggerAns = trig.getLsbD 1) →
      ∃ u, exec (.channelOpen p tag (lineByte l) ability present tmin tmax target kv kd relay trig) s
          = .next (replied p tag 0x40 .ok
            (([q.tmin, q.tmax, q.dataTarget].flatMap fun n => [hiByte (BitVec.ofNat 16 n), loByte (BitVec.ofNat 16 n)])
              ++ [byteOf q.kVoice, byteOf q.kData, if q.relay then 1 else 0,
                (if q.triggerCng then 1 else 0) + (if q.triggerAns then 2 else 0)]) u)
        ∧ (u.line l).chan = {
            params := q, ability := BitVec.ofNat 4 ability.toNat, requestedClass := .voice,
            mode := if ability.getLsbD 1 then .v16 else .v8, agreement := .advertise, farWord := none, choice := none,
            flags := { dataRefused := false, noCommon := false, farSilent := false, timeout := false }, bareCount := 0,
            agreementTimer := some (s.line l).ms, reprime := false, sampleCounter := 0, nextSequence := 0,
            nextTimestamp := 0, gathered := [] }
        ∧ (u.line l).buf = { (s.line l).buf with
            state := .priming, slots := Vector.replicate 64 none, playoutPoint := none, missing := 0, lastPlayed := none,
            splicePending := false, spliceQueue := [] }
        ∧ (u.line l).depth = { jitter := 0, lastTransit := none, smoothed := 0, target := q.tmin, since := 0 }
        ∧ (∀ k ∈ (u.line l).ctr.list, k = 0) ∧ (u.line l).det.dtmfRun.on = true
        ∧ (u.line l).det.cngLineRun.on = true ∧ (u.line l).det.cngNetRun.on = true
        ∧ (u.line l).det.ansLineRun.on = true ∧ (u.line l).det.ansNetRun.on = true
        ∧ (u.line l).events = (s.line l).events ∧ (u.line l).sup = (s.line l).sup ∧ (u.line l).cad = (s.line l).cad
        ∧ (u.line l).cid = (s.line l).cid ∧ TableKept (s.line l) (u.line l) ∧ OnlyLine l s u)

/-- CHANNEL_CLOSE ends the call at once or drains it, and CHANNEL_FLUSH empties the buffer and keeps P. Where they execute
at once for the owner: a CLOSED channel answers both closes WRONG_STATE, one not open CHANNEL_FLUSH. An immediate
close leaves the channel CLOSED with an empty buffer and splice, P unset, silence to come, sample 0 (log 26), no
gathered samples, the timer stopped and no re-prime request; its other values, counters, depth estimates, feed,
cadence and caller-ID stay, and with no digit active and no answer tone its events too. A drain of a DRAINING channel
changes nothing; of an open one it sets DRAINING, drops the gathered samples and stops the timer, nothing else. A
flush empties slots and splice queue, sets PRIMING and m 0, and changes nothing else. -/
def Obligations.ChannelClosesDrainsAndFlushes : Prop :=
  ∀ (p : Port) (tag : Byte) (l : Line) (s : State), Free s p → (s.line l).owner = some p →
    ((s.line l).buf.state = .closed →
      exec (.channelCloseImmediate p tag (lineByte l)) s = .next (replied p tag 0x41 .wrongState [] s)
      ∧ exec (.channelCloseDrain p tag (lineByte l)) s = .next (replied p tag 0x41 .wrongState [] s))
    ∧ (((s.line l).buf.state = .closed ∨ (s.line l).buf.state = .draining) →
      exec (.channelFlush p tag (lineByte l)) s = .next (replied p tag 0x42 .wrongState [] s))
    ∧ ((s.line l).buf.state ≠ .closed →
      ∃ u, exec (.channelCloseImmediate p tag (lineByte l)) s = .next (replied p tag 0x41 .ok [] u)
        ∧ (u.line l).chan = { (s.line l).chan with agreementTimer := none, reprime := false, gathered := [] }
        ∧ (u.line l).buf.state = .closed ∧ (u.line l).buf.slots = Vector.replicate 64 none
        ∧ (u.line l).buf.playoutPoint = none ∧ (u.line l).buf.missing = 0 ∧ (u.line l).buf.lastPlayed = none
        ∧ (u.line l).buf.splicePending = false ∧ (u.line l).buf.spliceQueue = []
        ∧ (∀ v ∈ (u.line l).buf.period.rest, v = 0)
        ∧ ((s.line l).buf.period.trimmed = false →
          (u.line l).buf.period.rest.length = (s.line l).buf.period.rest.length)
        ∧ (u.line l).depth = (s.line l).depth ∧ (u.line l).ctr = (s.line l).ctr ∧ (u.line l).sup = (s.line l).sup
        ∧ (u.line l).cad = (s.line l).cad ∧ (u.line l).cid = (s.line l).cid ∧ TableKept (s.line l) (u.line l)
        ∧ (u.line l).det.cngLineRun.on = false ∧ (u.line l).det.cngNetRun.on = false
        ∧ (u.line l).det.ansLineRun.on = false ∧ (u.line l).det.ansNetRun.on = false
        ∧ ElseSame l s u ∧ (∀ q, OnlyFlags (s.port q) (u.port q))
        ∧ (digitActive (s.line l).det.dtmf = false → (s.line l).det.ansLine = .idle → (s.line l).det.ansNet = .idle →
          (u.line l).events = (s.line l).events ∧ u.portA = s.portA ∧ u.portB = s.portB))
    ∧ ((s.line l).buf.state = .draining →
      exec (.channelCloseDrain p tag (lineByte l)) s = .next (replied p tag 0x41 .ok [] s))
    ∧ ((s.line l).buf.state.isOpen = true →
      exec (.channelCloseDrain p tag (lineByte l)) s = .next (replied p tag 0x41 .ok [] (s.modLine l fun x =>
        { x with chan := { x.chan with agreementTimer := none, gathered := [] }, buf := { x.buf with state := .draining } }))
      ∧ exec (.channelFlush p tag (lineByte l)) s = .next (replied p tag 0x42 .ok [] (s.modBuf l fun b =>
        { b with slots := Vector.replicate 64 none, spliceQueue := [], state := .priming, missing := 0 })))

/-- AGREEMENT_RESTART and SET_CLASS restart the agreement; SET_ABILITY replaces the local set without a restart. Where
they execute at once for the owner: a channel not open answers all three WRONG_STATE. On an open one AGREEMENT_RESTART
and SET_CLASS 0 or 1 restart the agreement, the class kept or set, AGREEMENT_CHANGED latched unless the state was
ADVERTISE; SET_CLASS above 1 is answered RANGE. SET_ABILITY is answered WRONG_STATE in CONFIRMED where NO_COMMON is
clear and the new set lacks the current mode; else RANGE for an empty byte or one above 15; else the set is replaced
and nothing else differs, but in MATCHED the choice and its flags are computed afresh against the far word. -/
def Obligations.AgreementCommandsAct : Prop :=
  ∀ (p : Port) (tag : Byte) (l : Line) (s : State), Free s p → (s.line l).owner = some p →
    ((s.line l).buf.state.isOpen = false →
      exec (.agreementRestart p tag (lineByte l)) s = .next (replied p tag 0x45 .wrongState [] s)
      ∧ (∀ k, exec (.setClass p tag (lineByte l) k) s = .next (replied p tag 0x44 .wrongState [] s))
      ∧ ∀ a, exec (.setAbility p tag (lineByte l) a) s = .next (replied p tag 0x43 .wrongState [] s))
    ∧ ((s.line l).buf.state.isOpen = true →
      (∃ u, exec (.agreementRestart p tag (lineByte l)) s = .next (replied p tag 0x45 .ok [] u)
        ∧ Restarted p l (s.line l).chan.requestedClass s u)
      ∧ (∀ k : MediaClass, ∃ u,
        exec (.setClass p tag (lineByte l) (if k = .voice then 0 else 1)) s = .next (replied p tag 0x44 .ok [] u)
        ∧ Restarted p l k s u)
      ∧ (∀ k : Byte, 1 < k.toNat →
        exec (.setClass p tag (lineByte l) k) s = .next (replied p tag 0x44 .range [] s))
      ∧ (∀ (a : Byte) (stuck : Prop), (stuck ↔ (s.line l).chan.agreement = .confirmed
          ∧ (s.line l).chan.flags.noCommon = false ∧ a.getLsbD (s.line l).chan.mode.bit = false) →
        (stuck → exec (.setAbility p tag (lineByte l) a) s = .next (replied p tag 0x43 .wrongState [] s))
        ∧ (¬ stuck → (a = 0 ∨ 15 < a.toNat) →
          exec (.setAbility p tag (lineByte l) a) s = .next (replied p tag 0x43 .range [] s))
        ∧ (¬ stuck → a ≠ 0 → a.toNat ≤ 15 → (s.line l).chan.agreement ≠ .matched →
          exec (.setAbility p tag (lineByte l) a) s = .next (replied p tag 0x43 .ok [] (s.modChan l fun c =>
            { c with ability := BitVec.ofNat 4 a.toNat })))
        ∧ (a ≠ 0 → a.toNat ≤ 15 → (s.line l).chan.agreement = .matched → ∀ w, (s.line l).chan.farWord = some w →
          ∃ choice refused common, Chosen (BitVec.ofNat 4 a.toNat) (s.line l).chan.requestedClass w choice
              { (s.line l).chan.flags with dataRefused := refused, noCommon := common }
            ∧ exec (.setAbility p tag (lineByte l) a) s = .next (replied p tag 0x43 .ok [] (s.modChan l fun c =>
              { c with ability := BitVec.ofNat 4 a.toNat, choice := choice
                       flags := { c.flags with dataRefused := refused, noCommon := common } })))))

/-- READ_COUNTERS returns a line's 53-byte counters block, and clears the 15 counters when asked. Where it executes at
once, from either port: READ_COUNTERS is answered OK with the 15 counters in order, the agreement flags, choice and
far word (its ignored bits as 0: log 16), and the playout snapshot with J16, S and T, 53 bytes, for each line Line 1
first; with a clear option other than 0 the counters of each line reported are then 0; nothing else differs. -/
def Obligations.CountersReportedAndCleared : Prop :=
  ∀ (p : Port) (tag clear : Byte) (s : State) (zeroed : Line → State → State), Free s p →
    (∀ l t, zeroed l t = if clear = 0 then t else t.modCtr l fun _ =>
      { stored := 0, late := 0, duplicate := 0, aheadDiscards := 0, restarts := 0, concealed := 0, samplesRemoved := 0,
        samplesInserted := 0, spliceDrops := 0, stray := 0, closedArrivals := 0, uplinkSent := 0, uplinkUnrouted := 0,
        uplinkDropped := 0, agreementRestarts := 0 }) →
    ∃ block : Line → List Byte,
      (∀ l, (block l).length = 53 ∧ block l = ((s.line l).ctr.list.flatMap fun k => [hiByte k, loByte k])
        ++ [(if (s.line l).chan.flags.dataRefused then 1 else 0) + (if (s.line l).chan.flags.noCommon then 2 else 0)
              + (if (s.line l).chan.flags.farSilent then 4 else 0) + (if (s.line l).chan.flags.timeout then 8 else 0),
            (match (s.line l).chan.choice with | some m => modeByte m | none => 0xFF)]
        ++ (match (s.line l).chan.farWord with
            | some w => [1, byteOf w.ability.toNat,
                (if w.ack then 128 else 0) + (if w.mediaClass = .data then 16 else 0) + modeByte w.mode]
            | none => [0, 0, 0])
        ++ [channelByte (s.line l).buf.state]
        ++ (match (s.line l).buf.playoutPoint with | some q => [1, hiByte q, loByte q] | none => [0, 0, 0])
        ++ [byteOf (storedCount (s.line l).buf.slots), byteOf (s.line l).buf.missing,
            if (s.line l).buf.splicePending then 1 else 0, byteOf (s.line l).buf.spliceQueue.length]
        ++ dwordBytes (BitVec.ofInt 32 (s.line l).depth.jitter) ++ dwordBytes (BitVec.ofInt 32 (s.line l).depth.smoothed)
        ++ [hiByte (BitVec.ofNat 16 (s.line l).depth.target), loByte (BitVec.ofNat 16 (s.line l).depth.target)])
      ∧ (∀ l, exec (.readCounters p tag (lineByte l) clear) s = .next (replied p tag 0x46 .ok (block l) (zeroed l s)))
      ∧ exec (.readCounters p tag 3 clear) s
          = .next (replied p tag 0x46 .ok (block .one ++ block .two) (zeroed .two (zeroed .one s)))

/-- At an uplink boundary the next frame is built from 80 samples and goes to the owner's queue. On an open channel with
80 samples gathered, or more, the oldest 80 being taken (log 20): the frame carries the line, the next sequence and
timestamp, the mode's payload kind, a mode word as the agreement state and the sequence ask, and the 80 samples coded
as LOG8 codes or LIN16 values, all zero where R31 mutes them. Both numbers advance, by 1 and by 80, and the samples
leave. Unowned it counts as unrouted; owned, it joins the tail of the owner's queue and counts as sent; with 24 media
frames queued the oldest that is not being sent (the head of a READ is, from the look at the queue on: log 18) is
dropped first, counted at its own line. Nothing else differs. With fewer samples, or a channel not open, nothing
happens (log 5). -/
def Obligations.UplinkFrameBuiltAndRouted : Prop :=
  ∀ (l : Line) (s : State),
    ((s.line l).buf.state.isOpen = true → 80 ≤ (s.line l).chan.gathered.length →
      ∃ (f : MediaFrame) (xs : List Sample), f.line = l ∧ f.sequence = (s.line l).chan.nextSequence
        ∧ f.timestamp = (s.line l).chan.nextTimestamp
        ∧ f.kind = (if (s.line l).chan.mode = .v8 ∨ (s.line l).chan.mode = .d8 then .log8 else .lin16)
        ∧ (f.kind = .log8 → List.Forall₂ Log8Code xs f.payload)
        ∧ (f.kind = .lin16 → f.payload = xs.flatMap fun v => [hiByte v, loByte v])
        ∧ ((s.line l).chan.params.relay = true → (s.line l).chan.mode.mediaClass = .voice →
            (∃ g ∈ (s.line l).chan.gathered.take 80, g.digit = true) → xs = List.replicate 80 0)
        ∧ (((s.line l).chan.params.relay = false ∨ (s.line l).chan.mode.mediaClass = .data
            ∨ ∀ g ∈ (s.line l).chan.gathered.take 80, g.digit = false) →
            xs = ((s.line l).chan.gathered.take 80).map Gathered.sample)
        ∧ f.word = (if (s.line l).chan.agreement = .advertise ∨ (s.line l).chan.agreement = .matched
              ∨ ((s.line l).chan.agreement = .confirmed ∧ f.sequence.toNat % 10 = 0)
              ∨ ((s.line l).chan.agreement = .presumed ∧ f.sequence.toNat % 50 = 0)
            then some { ability := (s.line l).chan.ability, mediaClass := (s.line l).chan.requestedClass
                        ack := decide ((s.line l).chan.agreement = .matched ∨ (s.line l).chan.agreement = .confirmed)
                        mode := match (s.line l).chan.agreement, (s.line l).chan.choice with
                          | .matched, some m => m
                          | _, _ => (s.line l).chan.mode }
            else none)
        ∧ ∀ t, t = s.modChan l (fun c =>
            { c with nextSequence := c.nextSequence + 1, nextTimestamp := c.nextTimestamp + 80,
                     gathered := c.gathered.drop 80 }) →
          ((s.line l).owner = none → exec (.uplinkBoundary l) s = .next (t.modCtr l fun k =>
            { k with uplinkUnrouted := satAdd k.uplinkUnrouted 1 }))
          ∧ ∀ p, (s.line l).owner = some p →
            (mediaCount (s.port p) < 24 → exec (.uplinkBoundary l) s = .next ((t.modPort p fun q =>
                { q with outbound := q.outbound ++ [.media f] }).modCtr l fun k =>
              { k with uplinkSent := satAdd k.uplinkSent 1 }))
            ∧ ∀ before g after, (s.port p).outbound = before ++ .media g :: after → mediaCount (s.port p) = 24 →
              ((s.port p).sending ≠ .head ∧ (∀ m ∈ before, m.isReply = true)
                ∨ (s.port p).sending = .head ∧ ∃ m ms, before = m :: ms ∧ ∀ n ∈ ms, n.isReply = true) →
              exec (.uplinkBoundary l) s = .next (((t.modCtr g.line fun k =>
                { k with uplinkDropped := satAdd k.uplinkDropped 1 }).modPort p fun q =>
                  { q with outbound := before ++ after ++ [.media f] }).modCtr l fun k =>
                { k with uplinkSent := satAdd k.uplinkSent 1 }))
    ∧ (((s.line l).buf.state.isOpen = false ∨ (s.line l).chan.gathered.length < 80) →
      exec (.uplinkBoundary l) s = .next s)

/-- A taken MEDIA message is judged for its form, then counted as stray or closed-arrival, or queued for the splice. In a
WRITE: a body that is not well formed increases malformed media at the port by 1; a well-formed one naming a line that
the port does not own its stray counter, and one naming an owned line whose channel is not open its closed-arrivals
counter; nothing else differs. A bare frame of the owner for an open channel with a splice pending, outside ADVERTISE,
joins the tail of the splice queue, the oldest leaving as a splice-drop where 8 were held; nothing else differs. -/
def Obligations.MediaJudgedAndCounted : Prop :=
  ∀ (p : Port) (body : List Byte) (s : State), (s.port p).transaction = .write →
    (¬ BodyFormed body → exec (.mediaTaken p body) s
      = .next (s.modPort p fun q => { q with malformedMedia := satAdd q.malformedMedia 1 }))
    ∧ ∀ l, BodyFormed body → body.head? = some (lineByte l) →
      ((s.line l).owner ≠ some p → exec (.mediaTaken p body) s
        = .next (s.modCtr l fun k => { k with stray := satAdd k.stray 1 }))
      ∧ ((s.line l).owner = some p → (s.line l).buf.state.isOpen = false → exec (.mediaTaken p body) s
        = .next (s.modCtr l fun k => { k with closedArrivals := satAdd k.closedArrivals 1 }))
      ∧ ∀ r, BareBody l (s.line l).chan.sampleCounter body r → OwnerSends p l s →
        (s.line l).buf.splicePending = true → (s.line l).chan.agreement ≠ .advertise →
        ((s.line l).buf.spliceQueue.length < 8 → exec (.mediaTaken p body) s
          = .next (s.modBuf l fun b => { b with spliceQueue := b.spliceQueue ++ [r] }))
        ∧ (8 ≤ (s.line l).buf.spliceQueue.length → exec (.mediaTaken p body) s
          = .next (s.modLine l fun x => { x with
              buf := { x.buf with spliceQueue := x.buf.spliceQueue.drop 1 ++ [r] }
              ctr := { x.ctr with spliceDrops := satAdd x.ctr.spliceDrops 1 } }))

/-- A frame for an open channel is STORED, DUPLICATE, EARLY, LATE, AHEAD or RESTART by its distance from P. A bare frame
of the owner, outside ADVERTISE, with no splice pending, at sequence q. P unset: stored, P becoming q. At distance 0
to 63: a duplicate where q is stored, else stored. At -1023 to -1: EARLY, P becoming q, in PRIMING at -63 or nearer
where no stored frame stands more than 63 after q, else LATE. At 64 to 1023: P becomes q - 63, frames behind it leave
as ahead-discards, q is stored. Beyond: RESTART, the buffer holding q alone, PRIMING, m 0, last transit cleared first,
PLAYOUT_ALERT latched. Each stored frame counts and feeds the jitter estimator; nothing else differs. -/
def Obligations.ArrivalsClassified : Prop :=
  ∀ (p : Port) (l : Line) (body : List Byte) (r : FrameRecord) (s : State), OwnerSends p l s →
    BareBody l (s.line l).chan.sampleCounter body r → (s.line l).chan.agreement ≠ .advertise →
    (s.line l).buf.splicePending = false →
    ((s.line l).buf.playoutPoint = none → exec (.mediaTaken p body) s = .next (s.modLine l fun x => { x with
      buf := { x.buf with slots := x.buf.slots.set (slotOf r.sequence) (some r), playoutPoint := some r.sequence }
      depth := estimated x.depth r.arrival r.timestamp
      ctr := { x.ctr with stored := satAdd x.ctr.stored 1 } }))
    ∧ ∀ (P : Word) (d : Int), (s.line l).buf.playoutPoint = some P → d = (r.sequence - P).toInt →
      (0 ≤ d → d ≤ 63 →
        ((∃ g, Holds (s.line l).buf.slots r.sequence g) → exec (.mediaTaken p body) s
          = .next (s.modCtr l fun k => { k with duplicate := satAdd k.duplicate 1 }))
        ∧ ((∀ g, ¬ Holds (s.line l).buf.slots r.sequence g) → exec (.mediaTaken p body) s
          = .next (s.modLine l fun x => { x with
            buf := { x.buf with slots := x.buf.slots.set (slotOf r.sequence) (some r) }
            depth := estimated x.depth r.arrival r.timestamp
            ctr := { x.ctr with stored := satAdd x.ctr.stored 1 } })))
      ∧ (-1023 ≤ d → d ≤ -1 → ∀ early : Prop, (early ↔ (s.line l).buf.state = .priming ∧ -63 ≤ d
          ∧ ∀ (i : Fin 64) (g : FrameRecord), (s.line l).buf.slots[i] = some g → (g.sequence - r.sequence).toInt ≤ 63) →
        (early → exec (.mediaTaken p body) s = .next (s.modLine l fun x => { x with
          buf := { x.buf with slots := x.buf.slots.set (slotOf r.sequence) (some r), playoutPoint := some r.sequence }
          depth := estimated x.depth r.arrival r.timestamp
          ctr := { x.ctr with stored := satAdd x.ctr.stored 1 } }))
        ∧ (¬ early → exec (.mediaTaken p body) s = .next (s.modCtr l fun k => { k with late := satAdd k.late 1 })))
      ∧ (64 ≤ d → d ≤ 1023 →
        ∃ slots, (∀ i : Fin 64, i ≠ slotOf r.sequence →
            (∀ g, slots[i] = some g ↔ (s.line l).buf.slots[i] = some g ∧ 0 ≤ (g.sequence - (r.sequence - 63)).toInt))
          ∧ slots[slotOf r.sequence] = some r
          ∧ exec (.mediaTaken p body) s = .next (s.modLine l fun x => { x with
            buf := { x.buf with slots := slots, playoutPoint := some (r.sequence - 63) }
            depth := estimated x.depth r.arrival r.timestamp
            ctr := { x.ctr with
              stored := satAdd x.ctr.stored 1
              aheadDiscards := satAdd x.ctr.aheadDiscards ((List.finRange 64).countP fun i =>
                match x.buf.slots[i] with
                | some g => decide ((g.sequence - (r.sequence - 63)).toInt < 0)
                | none => false) } }))
      ∧ ((d ≤ -1024 ∨ 1024 ≤ d) → exec (.mediaTaken p body) s = .next ((s.modLine l fun x => { x with
          buf := { x.buf with slots := (Vector.replicate 64 none).set (slotOf r.sequence) (some r)
                              playoutPoint := some r.sequence, state := .priming, missing := 0 }
          depth := { x.depth with lastTransit := some (r.arrival - r.timestamp) }
          ctr := { x.ctr with stored := satAdd x.ctr.stored 1, restarts := satAdd x.ctr.restarts 1 } }).modPort p fun q =>
        { q with flags := q.flags ||| BitVec.twoPow 15 (if l = .one then 10 else 11) }))

/-- A frame-start plays the frame at P, conceals it, goes on priming, drains or is silent. At the end of a period. CLOSED:
silence, 80 samples of 0 (log 26). A re-prime request is cleared first, PLAYING or CONCEALING becoming PRIMING with m
0, the rest as from there. With a switch ready in PRIMING, or without the frame at P, the queued frames (of one
window) replace the old stream, and the rest is as from there. PRIMING: silence while D is below T; else the frame at
P plays with S = 16D and F at the rate limit. PLAYING or CONCEALING with the frame at P: S moves by D and it plays. A
frame that plays, decoded by its own kind, with F below the limit or S in the band: its 80 samples, F one greater;
else with S above the band the voice period is its last 40 samples, the data period its first 79, below it 40 or 1
samples more, S moving as far, F 0, counted. Without it: S moves by 0, P advances, concealed counts, and m below the
limit gives the concealment, at the limit silence, PRIMING and PLAYOUT_ALERT at the owner. DRAINING plays the frame at
P without depth, and closes without one or with P unset. A frame played leaves its slot, P one beyond it, m 0. Nothing
else differs. Before the period's end nothing happens (log 5). -/
def Obligations.FrameStartChoosesPeriod : Prop :=
  ∀ (l : Line) (s : State), ((s.line l).buf.period.rest ≠ [] → exec (.frameStart l) s = .next s)
    ∧ ((s.line l).buf.period.rest = [] →
      ((s.line l).buf.state = .closed → exec (.frameStart l) s
        = .next (s.modBuf l fun b => { b with period := { rest := List.replicate 80 0, trimmed := false } }))
      ∧ ((s.line l).buf.state ≠ .closed → (s.line l).chan.reprime = true →
        exec (.frameStart l) s = exec (.frameStart l) (s.modLine l fun x => { x with
          chan := { x.chan with reprime := false }
          buf := if x.buf.state = .playing ∨ x.buf.state = .concealing then { x.buf with state := .priming, missing := 0 }
            else x.buf }))
      ∧ ((s.line l).chan.reprime = false →
        (∀ f fs, (s.line l).buf.splicePending = true → (s.line l).buf.spliceQueue = f :: fs →
          (∀ g ∈ fs, 0 ≤ (g.sequence - f.sequence).toInt ∧ (g.sequence - f.sequence).toInt ≤ 63) →
          ((s.line l).buf.state = .priming
            ∨ (((s.line l).buf.state = .playing ∨ (s.line l).buf.state = .concealing)
              ∧ ∀ P, (s.line l).buf.playoutPoint = some P → ∀ r, ¬ Holds (s.line l).buf.slots P r)) →
          exec (.frameStart l) s = exec (.frameStart l) (s.modLine l switched))
        ∧ ((s.line l).buf.state = .priming → NoSwitch (s.line l).buf →
          (depthOf (s.line l).buf < targetNow (s.line l) ∨ ∀ P, (s.line l).buf.playoutPoint = some P →
            ∀ r, ¬ Holds (s.line l).buf.slots P r) →
          exec (.frameStart l) s = .next (s.modLine l fun x => { x with
            depth := { x.depth with target := targetNow (s.line l) }
            buf := { x.buf with period := { rest := List.replicate 80 0, trimmed := false } } }))
        ∧ (∀ (P : Word) (r : FrameRecord) (xs : List Sample), (s.line l).buf.playoutPoint = some P →
          Holds (s.line l).buf.slots P r → Decoded r xs →
          (∀ (h rate size F : Nat) (S : Int),
            ((s.line l).chan.mode.mediaClass = .voice → h = 40 ∧ rate = 4 ∧ size = 40) →
            ((s.line l).chan.mode.mediaClass = .data → h = 8 ∧ rate = 25 ∧ size = 1) →
            (((s.line l).buf.state = .priming ∧ NoSwitch (s.line l).buf
                ∧ targetNow (s.line l) ≤ depthOf (s.line l).buf ∧ S = 16 * (depthOf (s.line l).buf : Int) ∧ F = rate)
              ∨ (((s.line l).buf.state = .playing ∨ (s.line l).buf.state = .concealing)
                ∧ S = smoothedNow (s.line l) (depthOf (s.line l).buf) ∧ F = (s.line l).depth.since)) →
            ((F < rate ∨ (16 * ((targetNow (s.line l) - h : Nat) : Int) ≤ S
                ∧ S ≤ 16 * ((targetNow (s.line l) + h : Nat) : Int))) →
              exec (.frameStart l) s = .next (played l P xs
                { (s.line l).depth with target := targetNow (s.line l), smoothed := S, since := min 25 (F + 1) }
                (s.line l).ctr { rest := xs, trimmed := false } s))
            ∧ (rate ≤ F → 16 * ((targetNow (s.line l) + h : Nat) : Int) < S →
              exec (.frameStart l) s = .next (played l P xs
                { (s.line l).depth with target := targetNow (s.line l)
                                        smoothed := max 0 (min 81920 (S - 16 * (size : Int))), since := 0 }
                { (s.line l).ctr with samplesRemoved := satAdd (s.line l).ctr.samplesRemoved size }
                { rest := if (s.line l).chan.mode.mediaClass = .voice then xs.drop 40 else xs.take 79, trimmed := true } s))
            ∧ (rate ≤ F → S < 16 * ((targetNow (s.line l) - h : Nat) : Int) →
              exec (.frameStart l) s = .next (played l P xs
                { (s.line l).depth with target := targetNow (s.line l)
                                        smoothed := max 0 (min 81920 (S + 16 * (size : Int))), since := 0 }
                { (s.line l).ctr with samplesInserted := satAdd (s.line l).ctr.samplesInserted size }
                { rest := xs ++ xs.drop (80 - size), trimmed := true } s)))
          ∧ ((s.line l).buf.state = .draining → exec (.frameStart l) s = .next (s.modBuf l fun b =>
              { b with slots := b.slots.set (slotOf P) none, playoutPoint := some (P + 1), missing := 0
                       lastPlayed := some xs, period := { rest := xs, trimmed := false } })))
        ∧ (∀ P, (s.line l).buf.playoutPoint = some P → (∀ r, ¬ Holds (s.line l).buf.slots P r) →
          ((s.line l).buf.state = .playing ∨ (s.line l).buf.state = .concealing) → NoSwitch (s.line l).buf →
            ∀ (m limit : Nat) (t : State), m = (s.line l).buf.missing + 1 →
              ((s.line l).chan.mode.mediaClass = .voice → limit = 5) →
              ((s.line l).chan.mode.mediaClass = .data → limit = 20) →
              t = s.modLine l (fun x => { x with
                depth := { x.depth with target := targetNow (s.line l), smoothed := smoothedNow (s.line l) 0 }
                buf := { x.buf with playoutPoint := some (P + 1) }
                ctr := { x.ctr with concealed := satAdd x.ctr.concealed 1 } }) →
              (m < limit → ∀ period : List Sample,
                (∀ xs, (s.line l).chan.mode.mediaClass = .voice → (s.line l).buf.lastPlayed = some xs →
                  period = xs.map fun v => v.sshiftRight m) →
                (((s.line l).chan.mode.mediaClass = .data ∨ (s.line l).buf.lastPlayed = none) →
                  period = List.replicate 80 0) →
                exec (.frameStart l) s = .next (t.modBuf l fun b =>
                  { b with missing := m, state := .concealing, period := { rest := period, trimmed := false } }))
              ∧ (limit ≤ m → ∀ u, u = t.modBuf l (fun b => { b with
                  missing := 0, state := .priming, period := { rest := List.replicate 80 0, trimmed := false } }) →
                ((s.line l).owner = none → exec (.frameStart l) s = .next u)
                ∧ ∀ p, (s.line l).owner = some p → exec (.frameStart l) s = .next (u.modPort p fun q =>
                  { q with flags := q.flags ||| BitVec.twoPow 15 (if l = .one then 10 else 11) })))
        ∧ ((s.line l).buf.state = .draining →
          (∀ P, (s.line l).buf.playoutPoint = some P → ∀ r, ¬ Holds (s.line l).buf.slots P r) →
          ∃ u, exec (.frameStart l) s = .next u
            ∧ (u.line l).buf.state = .closed ∧ (u.line l).buf.slots = Vector.replicate 64 none
            ∧ (u.line l).buf.playoutPoint = none ∧ (u.line l).buf.splicePending = false
            ∧ (u.line l).buf.spliceQueue = [] ∧ (u.line l).buf.missing = 0 ∧ (u.line l).buf.lastPlayed = none
            ∧ (u.line l).buf.period = { rest := List.replicate 80 0, trimmed := false }
            ∧ (u.line l).chan = (s.line l).chan ∧ (u.line l).depth = (s.line l).depth
            ∧ (u.line l).ctr = (s.line l).ctr ∧ (u.line l).sup = (s.line l).sup
            ∧ TableKept (s.line l) (u.line l) ∧ ElseSame l s u)))

/-- Received words match, confirm and restart the agreement; ten bare frames and the timer make it PRESUMED. A word of the
owner for an open channel: in ADVERTISE it is recorded, the choice computed, the state MATCHED; in MATCHED one with
the recorded set and class confirms with ACK, the choice becoming the mode and the timer stopping, and without ACK
changes nothing, another is recorded and the choice computed afresh; in CONFIRMED one with the recorded set and class
changes nothing; another, and any in PRESUMED, restarts the agreement and matches. A bare frame in ADVERTISE is
counted, the tenth giving PRESUMED in V8 with FAR_SILENT, its other flags kept (log 12). At 2000 ms in ADVERTISE or
MATCHED: PRESUMED in V8 with TIMEOUT, the far word and the other flags kept (log 12); AGREEMENT_TIMEOUT before that
does nothing (log 5). Else the channel's values stay, but for a re-prime request from VOICE to DATA. -/
def Obligations.AgreementFollowsWords : Prop :=
  ∀ (l : Line) (s : State),
    (∀ (p : Port) (w : ModeWord) (body : List Byte), OwnerSends p l s → WordBody l w body →
      ∃ u, exec (.mediaTaken p body) s = .next u ∧ (u.line l).sup = (s.line l).sup ∧ ElseSame l s u
        ∧ (∀ q, OnlyFlags (s.port q) (u.port q))
        ∧ ((s.line l).chan.agreement = .advertise → ∃ choice refused common,
          Chosen (s.line l).chan.ability (s.line l).chan.requestedClass w choice
            { (s.line l).chan.flags with dataRefused := refused, noCommon := common }
          ∧ (u.line l).chan = { (s.line l).chan with
              agreement := .matched, farWord := some w, bareCount := 0, choice := choice
              flags := { (s.line l).chan.flags with dataRefused := refused, noCommon := common } }
          ∧ isLatched (u.port p).flags (.agreementChanged l) = true)
        ∧ (∀ r, (s.line l).chan.farWord = some r → ∀ same : Prop,
          (same ↔ r.ability = w.ability ∧ r.mediaClass = w.mediaClass) →
          ((s.line l).chan.agreement = .matched →
            (same → w.ack = false → (u.line l).chan = (s.line l).chan)
            ∧ (same → w.ack = true → ∀ m, (s.line l).chan.choice = some m →
              (u.line l).chan = { (s.line l).chan with
                agreement := .confirmed, mode := m, agreementTimer := none
                reprime := (s.line l).chan.reprime
                  || (decide ((s.line l).chan.mode.mediaClass = .voice) && decide (m.mediaClass = .data)) }
              ∧ isLatched (u.port p).flags (.agreementChanged l) = true)
            ∧ (¬ same → ∃ choice refused common,
              Chosen (s.line l).chan.ability (s.line l).chan.requestedClass w choice
                { (s.line l).chan.flags with dataRefused := refused, noCommon := common }
              ∧ (u.line l).chan = { (s.line l).chan with
                  farWord := some w, choice := choice
                  flags := { (s.line l).chan.flags with dataRefused := refused, noCommon := common } }))
          ∧ ((s.line l).chan.agreement = .confirmed → same → (u.line l).chan = (s.line l).chan))
        ∧ (((s.line l).chan.agreement = .presumed
            ∨ ((s.line l).chan.agreement = .confirmed ∧ ∃ r, (s.line l).chan.farWord = some r
              ∧ ¬ (r.ability = w.ability ∧ r.mediaClass = w.mediaClass))) →
          ∃ choice refused common, Chosen (s.line l).chan.ability (s.line l).chan.requestedClass w choice
              { dataRefused := refused, noCommon := common, farSilent := false, timeout := false }
            ∧ (u.line l).chan = { (s.line l).chan with
                agreement := .matched, farWord := some w, bareCount := 0, choice := choice
                flags := { dataRefused := refused, noCommon := common, farSilent := false, timeout := false }
                agreementTimer := some (s.line l).ms }
            ∧ (u.line l).ctr.agreementRestarts = satAdd (s.line l).ctr.agreementRestarts 1
            ∧ isLatched (u.port p).flags (.agreementChanged l) = true))
    ∧ (∀ (p : Port) (body : List Byte) (r : FrameRecord), OwnerSends p l s →
      BareBody l (s.line l).chan.sampleCounter body r →
      ∃ u, exec (.mediaTaken p body) s = .next u
        ∧ ((s.line l).chan.agreement ≠ .advertise → (u.line l).chan = (s.line l).chan)
        ∧ ((s.line l).chan.agreement = .advertise → (s.line l).chan.bareCount < 9 →
          (u.line l).chan = { (s.line l).chan with bareCount := (s.line l).chan.bareCount + 1 })
        ∧ ((s.line l).chan.agreement = .advertise → (s.line l).chan.bareCount = 9 →
          (u.line l).chan = { (s.line l).chan with
              agreement := .presumed, mode := .v8, bareCount := 10, agreementTimer := none
              flags := { (s.line l).chan.flags with farSilent := true } }
          ∧ isLatched (u.port p).flags (.agreementChanged l) = true))
    ∧ (∀ t, (s.line l).chan.agreementTimer = some t → 2000 ≤ ((s.line l).ms - t).toNat →
      ((s.line l).chan.agreement = .advertise ∨ (s.line l).chan.agreement = .matched) →
      ∃ u, exec (.agreementTimeout l) s = .next u
        ∧ u.line l = { s.line l with chan := { (s.line l).chan with
            agreement := .presumed, mode := .v8, choice := none, agreementTimer := none
            flags := { (s.line l).chan.flags with timeout := true } } }
        ∧ ElseSame l s u ∧ (∀ q, OnlyFlags (s.port q) (u.port q))
        ∧ ∀ q, (s.line l).owner = some q → isLatched (u.port q).flags (.agreementChanged l) = true)
    ∧ ((∀ t, (s.line l).chan.agreementTimer = some t → ((s.line l).ms - t).toNat < 2000) →
      exec (.agreementTimeout l) s = .next s)

/-- Every step keeps an agreed mode in both ability sets. Unless NO_COMMON is set, a MATCHED agreement's choice, and a
CONFIRMED one's current mode, is in the local ability set and in the ability set of the recorded far word: from every
state where this holds of both lines, a step that answers a next state leaves it so. -/
def Obligations.AgreementKeptSound : Prop :=
  ∀ s t, (∀ l, AgreementSound (s.line l).chan) → step s = .next t → ∀ l, AgreementSound (t.line l).chan

/-- Every step keeps each stored frame in its own slot within the 64 numbers from P. Each stored frame stands in the slot
of its sequence number, at a distance of 0 to 63 from the playout point, and with P unset none is stored: from every
state where this holds of both lines, a step that answers a next state leaves it so. -/
def Obligations.SlotsKeptWindowed : Prop :=
  ∀ s t, (∀ l, SlotsWindowed (s.line l).buf) → step s = .next t → ∀ l, SlotsWindowed (t.line l).buf

/-- Each detector block is judged by the samples heard: digits and fax tones qualify, hold and end. At a due block
boundary the block of received samples and the block of delivered playout samples are judged by what the detectors
measure in them, a free value (log 8), an all-zero block holding no tone; with none due nothing happens (log 5).
Whatever the two readings, all five detectors running on whole blocks, one not IDLE at most, and only its side
sounding. DTMF: a pair of R118 makes a candidate, counts it, is ACTIVE at 8; ACTIVE: its own pair sets absence 0,
another counts as the next candidate, 8 absent blocks end the digit with DTMF_DIGIT of 5 ms per block (log 25). CNG:
one 1100 Hz tone counts to 100, then PRESENT with TONE_CNG; a tone sets absence 0, 10 absent blocks end it without
event; another tone of 300 to 3400 Hz within 10 dB makes a block absent. Answer: one 2100 Hz tone counts to 80, then
PRESENT with TONE_ANS; a reversal not within 20 blocks of the last stores TONE_ANS_REVERSAL; 10 absent blocks end it
with TONE_END. CNG on the line and an answer tone trigger first: on an open VOICE call in the trigger set, DATA is
requested and the agreement restarts, or in PRESUMED the mode is D8 at once. Values at a limit are accepted (log 8). -/
def Obligations.DetectorBlocksJudged : Prop :=
  ∀ (l : Line) (n m : Nat) (s : State),
    ((s.line l).blockDue = false → exec (.detectorBlockBoundary l n m) s = .next s)
    ∧ ((s.line l).blockDue = true → exec (.detectorBlockBoundary l n m) s = .next (judgeReadings l
        (heardReading n (s.line l).lineHeard) (heardReading m (s.line l).netHeard) s))
    ∧ (∀ h : Heard, (∀ v ∈ h.block, v = 0) → (heardReading n h).tones = [])
    ∧ (∀ (t o : Tone) (step : Nat), 10620 ≤ t.freq → t.freq ≤ 11380 → -430 ≤ t.level → t.level ≤ 0 →
      (o.freq < 10620 ∨ 11380 < o.freq) →
      (cngBlock { tones := [t, o], phaseStep := step } = true
        ↔ ¬ (3000 ≤ o.freq ∧ o.freq ≤ 34000 ∧ t.level - 100 ≤ o.level ∧ o.level ≤ t.level + 100)))
    ∧ ∀ (a b : BlockReading) (u : State), u = judgeReadings l a b s → AllRun (s.line l).det →
      (∀ (i j : Fin 4) (q : Fin 16) (st : DtmfState), q = keyDigit i j → KeyTones i j a → b.tones = [] →
        DtmfAlone st (s.line l).det → NoTrigger (s.line l) (u.line l)
        ∧ ((st = .idle ∨ ∃ d k, d ≠ q ∧ st = .qualifying d k) →
          Judged l { (s.line l).det with dtmf := .qualifying q 1 } none s u)
        ∧ (∀ k, st = .qualifying q k → k < 7 → Judged l { (s.line l).det with dtmf := .qualifying q (k + 1) } none s u)
        ∧ (st = .qualifying q 7 →
          Judged l { (s.line l).det with dtmf := .active q ((s.line l).ms - 40) 8 8 0 none } none s u)
        ∧ (∀ f age last absence next, st = .active q f age last absence next →
          Judged l { (s.line l).det with dtmf := .active q f (age + 1) (age + 1) 0 none } none s u)
        ∧ (∀ d f age last absence next k, d ≠ q → st = .active d f age last absence next →
          k = (match next with | some (d₂, c) => if d₂ = q then c + 1 else 1 | none => 1) →
          (absence < 7 →
            Judged l { (s.line l).det with dtmf := .active d f (age + 1) last (absence + 1) (some (q, k)) } none s u)
          ∧ (absence = 7 → k < 8 → Judged l { (s.line l).det with dtmf := .qualifying q k }
            (some (eventNow (s.line l) .dtmfDigit (byteOf d.val) (BitVec.ofNat 16 (min 65535 (5 * last))) false false)) s u)
          ∧ (absence = 7 → k = 8 → Judged l { (s.line l).det with dtmf := .active q ((s.line l).ms - 40) 8 8 0 none }
            (some (eventNow (s.line l) .dtmfDigit (byteOf d.val) (BitVec.ofNat 16 (min 65535 (5 * last))) false false)) s u)))
      ∧ (∀ st, a.tones = [] → b.tones = [] → DtmfAlone st (s.line l).det → NoTrigger (s.line l) (u.line l)
        ∧ ((st = .idle ∨ ∃ d k, st = .qualifying d k) → Judged l { (s.line l).det with dtmf := .idle } none s u)
        ∧ (∀ d f age last absence next, st = .active d f age last absence next →
          (absence < 7 →
            Judged l { (s.line l).det with dtmf := .active d f (age + 1) last (absence + 1) none } none s u)
          ∧ (absence = 7 → Judged l { (s.line l).det with dtmf := .idle }
            (some (eventNow (s.line l) .dtmfDigit (byteOf d.val) (BitVec.ofNat 16 (min 65535 (5 * last))) false false)) s u)))
      ∧ (∀ (k : Side) (t : Tone) (st : CngState), OneSide k [t] a b → 10620 ≤ t.freq → t.freq ≤ 11380 → -430 ≤ t.level →
        t.level ≤ 0 → CngAlone k st (s.line l).det →
        (st = .idle → Judged l (withCng k (.qualifying 1) (s.line l).det) none s u ∧ NoTrigger (s.line l) (u.line l))
        ∧ (∀ c, st = .qualifying c → c < 99 →
          Judged l (withCng k (.qualifying (c + 1)) (s.line l).det) none s u ∧ NoTrigger (s.line l) (u.line l))
        ∧ (st = .qualifying 99 →
          Judged l (withCng k (.present 0) (s.line l).det)
            (some (eventNow (s.line l) .toneCng (sideNumber k) 0 false false)) s u
          ∧ Triggered (decide (k = .line) && (s.line l).chan.params.triggerCng) (s.line l) (u.line l))
        ∧ (∀ c, st = .present c →
          Judged l (withCng k (.present 0) (s.line l).det) none s u ∧ NoTrigger (s.line l) (u.line l)))
      ∧ (∀ (k : Side) (st : CngState), a.tones = [] → b.tones = [] → CngAlone k st (s.line l).det →
        NoTrigger (s.line l) (u.line l)
        ∧ ((∃ c, st = .qualifying c) → Judged l (withCng k .idle (s.line l).det) none s u)
        ∧ (∀ c, st = .present c →
          (c < 9 → Judged l (withCng k (.present (c + 1)) (s.line l).det) none s u)
          ∧ (c = 9 → Judged l (withCng k .idle (s.line l).det) none s u)))
      ∧ (∀ (k : Side) (t : Tone) (st : AnswerState), OneSide k [t] a b → 20790 ≤ t.freq → t.freq ≤ 21210 →
        -430 ≤ t.level → t.level ≤ 0 → AnsAlone k st (s.line l).det →
        (st = .idle → Judged l (withAns k (.qualifying ((s.line l).ms - 5) 1) (s.line l).det) none s u
          ∧ NoTrigger (s.line l) (u.line l))
        ∧ (∀ f c, st = .qualifying f c →
          (c < 79 → Judged l (withAns k (.qualifying f (c + 1)) (s.line l).det) none s u
            ∧ NoTrigger (s.line l) (u.line l))
          ∧ (c = 79 → Judged l (withAns k (.present f 80 80 0 none) (s.line l).det)
              (some (eventNow (s.line l) .toneAns (sideNumber k) 0 false false)) s u
            ∧ Triggered (s.line l).chan.params.triggerAns (s.line l) (u.line l)
            ∧ ((u.line l).chan ≠ (s.line l).chan → (s.line l).chan.agreement ≠ .advertise →
              ∀ p, (s.line l).owner = some p → isLatched (u.port p).flags (.agreementChanged l) = true)))
        ∧ (∀ f age last absence reversal reported, st = .present f age last absence reversal →
          (reported ↔ 150 ≤ stepOf k a b ∧ stepOf k a b ≤ 210 ∧ absence = 0
            ∧ ∀ c, reversal = some c → 20 < age + 1 - c) →
          NoTrigger (s.line l) (u.line l)
          ∧ (¬ reported → Judged l (withAns k (.present f (age + 1) (age + 1) 0 reversal) (s.line l).det) none s u)
          ∧ (reported → Judged l (withAns k (.present f (age + 1) (age + 1) 0 (some (age + 1))) (s.line l).det)
            (some (eventNow (s.line l) .toneAnsReversal (sideNumber k) 0 false false)) s u)))
      ∧ (∀ (k : Side) (st : AnswerState), a.tones = [] → b.tones = [] → AnsAlone k st (s.line l).det →
        NoTrigger (s.line l) (u.line l)
        ∧ ((∃ f c, st = .qualifying f c) → Judged l (withAns k .idle (s.line l).det) none s u)
        ∧ (∀ f age last absence reversal, st = .present f age last absence reversal →
          (absence < 9 →
            Judged l (withAns k (.present f (age + 1) last (absence + 1) reversal) (s.line l).det) none s u)
          ∧ (absence = 9 → Judged l (withAns k .idle (s.line l).det)
            (some (eventNow (s.line l) .toneEnd (sideNumber k) (BitVec.ofNat 16 (min 65535 (5 * last))) false false))
            s u)))

/-- A line sample is gathered, delivered and heard on both lines, and every eighth is a millisecond. One sample of the
shared reference (log 6): on each line the sample counter advances while the channel is not CLOSED, the sample is
gathered while it is open, beyond 80 too (log 20), marked where a digit is active, and the period loses its first
sample. The codec gets the tone cadence's sum of its pair's frequencies, limited (log 7), each phase advancing, or 0
without a pair; else, while a transmission in progress has samples left, the FSK of its bit, the transmitter advancing
by one sample; else, also after its last sample (log 34), the playout sample, 0 from an exhausted period (log 20). The
line-side detectors hear the sample received, the network-side ones the playout sample, also beneath a tone; at every
fortieth the blocks end and a boundary is due. At every eighth both millisecond counters and the converter's running
timers advance. A line's owner, events, supervision, detectors, depth and counters stay, and so do the ports and the
table. -/
def Obligations.LineSampleDelivers : Prop :=
  ∀ (rx1 rx2 : Sample) (s : State), ∃ t, exec (.lineSample rx1 rx2) s = .next t
    ∧ t.portA = s.portA ∧ t.portB = s.portB ∧ t.steps = s.steps ∧ t.pairs = s.pairs ∧ t.pending = s.pending
    ∧ t.tick = (s.tick + 1) % 40
    ∧ t.ring = (if (s.tick + 1) % 40 % 8 = 0
        then { s.ring with startTimer := s.ring.startTimer.map (· + 1), keepWarm := s.ring.keepWarm.map (· + 1),
                           judgedNow := false }
        else { s.ring with judgedNow := false })
    ∧ ∀ (l : Line) (rx play : Sample), (l = .one → rx = rx1) → (l = .two → rx = rx2) →
      play = (match (s.line l).buf.period.rest with | v :: _ => v | [] => 0) →
      (t.line l).owner = (s.line l).owner ∧ (t.line l).generation = (s.line l).generation
      ∧ (t.line l).events = (s.line l).events ∧ (t.line l).sup = (s.line l).sup ∧ (t.line l).det = (s.line l).det
      ∧ (t.line l).depth = (s.line l).depth ∧ (t.line l).ctr = (s.line l).ctr
      ∧ (t.line l).ms = (if (s.tick + 1) % 40 % 8 = 0 then (s.line l).ms + 1 else (s.line l).ms)
      ∧ (t.line l).blockDue = ((s.line l).blockDue || decide ((s.tick + 1) % 40 = 0))
      ∧ ((s.tick + 1) % 40 ≠ 0 →
        (t.line l).lineHeard = { (s.line l).lineHeard with now := (s.line l).lineHeard.now ++ [rx] }
        ∧ (t.line l).netHeard = { (s.line l).netHeard with now := (s.line l).netHeard.now ++ [play] })
      ∧ ((s.tick + 1) % 40 = 0 →
        (t.line l).lineHeard = { now := [], block := (s.line l).lineHeard.now ++ [rx], before := (s.line l).lineHeard.block }
        ∧ (t.line l).netHeard
          = { now := [], block := (s.line l).netHeard.now ++ [play], before := (s.line l).netHeard.block })
      ∧ (t.line l).buf = { (s.line l).buf with
          period := { (s.line l).buf.period with rest := (s.line l).buf.period.rest.drop 1 } }
      ∧ ((s.line l).buf.state = .closed → (t.line l).chan = (s.line l).chan)
      ∧ ((s.line l).buf.state = .draining →
        (t.line l).chan = { (s.line l).chan with sampleCounter := (s.line l).chan.sampleCounter + 1 })
      ∧ ((s.line l).buf.state.isOpen = true → (t.line l).chan = { (s.line l).chan with
          sampleCounter := (s.line l).chan.sampleCounter + 1
          gathered := (s.line l).chan.gathered ++ [{ sample := rx, digit := digitActive (s.line l).det.dtmf }] })
      ∧ ((s.line l).cad.kind = .tone →
        (∀ h q, (s.line l).cad.inHand = some h → h.pair = some q →
          (t.line l).codecOut = limited (part q.f1 q.attenuation (s.line l).cad.phase1
            + part q.f2 q.attenuation (s.line l).cad.phase2)
          ∧ (t.line l).cad = { (s.line l).cad with phase1 := ((s.line l).cad.phase1 + q.f1) % 8000
                                                   phase2 := ((s.line l).cad.phase2 + q.f2) % 8000 })
        ∧ ((∀ h, (s.line l).cad.inHand = some h → h.pair = none) →
          (t.line l).codecOut = 0 ∧ (t.line l).cad = (s.line l).cad))
      ∧ ((s.line l).cad.kind ≠ .tone → (t.line l).cad = (s.line l).cad)
      ∧ ((s.line l).cid.state = .idle → (t.line l).cid = (s.line l).cid
        ∧ ((s.line l).cad.kind ≠ .tone → (t.line l).codecOut = play))
      ∧ (∀ m, StillSends (s.line l).cid m → ∀ bit, SendsBit (s.line l).cid m bit →
        (t.line l).cid = fskAdvance (s.line l).cid
        ∧ (t.line l).cid.phase = ((s.line l).cid.phase + (if bit then 1200 else 2200)) % 8000
        ∧ ((s.line l).cad.kind ≠ .tone →
          (t.line l).codecOut = limited (Config.sineSample (if bit then 1200 else 2200) 13 (s.line l).cid.phase)))
      ∧ (∀ m, (s.line l).cid.loaded = some m → (s.line l).cid.state = .data → 10 * m.message.length ≤ (s.line l).cid.bitPos →
        (t.line l).cid = (s.line l).cid ∧ ((s.line l).cad.kind ≠ .tone → (t.line l).codecOut = play))
end

