-- ==== Sys2Proof/Laws/Step.lean ====
section
/-! SUPPORT. What one step can do, said once, and the induction that carries an invariant over every step. -/

namespace Sys2Proof.Machine

/-- A step that answers a next state either idles or runs the front command. -/
theorem step_cases {s t : State} (h : step s = .next t) :
    (s.pending = [] ∧ t = s) ∨ ∃ c rest, s.pending = c :: rest ∧ exec c { s with pending := rest } = .next t := by
  unfold step at h
  cases hp : s.pending with
  | nil =>
    rw [hp] at h
    exact .inl ⟨rfl, by injection h with h; exact h.symm⟩
  | cons c rest =>
    rw [hp] at h
    exact .inr ⟨c, rest, rfl, h⟩

/-- Every command has its effect: nothing stops the block (log 23). -/
theorem exec_answers_next (c : Instr) (s : State) : ∃ t, exec c s = .next t := by
  cases c <;> exact ⟨_, rfl⟩

/-- An invariant that every command keeps, whatever waits behind it, is kept by every step. -/
theorem step_keeps {Inv : State → Prop} (hq : ∀ s q, Inv s → Inv { s with pending := q })
    (hc : ∀ c s t, Inv s → exec c s = .next t → Inv t) {s t : State} (hs : Inv s) (h : step s = .next t) : Inv t := by
  obtain ⟨-, rfl⟩ | ⟨c, rest, -, he⟩ := step_cases h
  · exact hs
  · exact hc c _ _ (hq s rest hs) he

end Sys2Proof.Machine
end

