-- ==== Sys2Proof/Laws/Units.lean ====
section
/-! SUPPORT. For the shared operations of the units, the lemma that says once what each can do: the keep-warm judgement, what the
detectors hear and judge, and serial data out. -/

namespace Sys2Proof.Machine

/-! ### The keep-warm judgement (R159, R162) -/

@[simp] theorem line_judgeFeeds (s : State) (l : Line) : (judgeFeeds s).line l = s.line l := line_modRing s _ l

@[simp] theorem port_judgeFeeds (s : State) (p : Port) : (judgeFeeds s).port p = s.port p := port_modRing s _ p

/-- A judgement keeps the converter warm or turns it OFF. -/
theorem judgeFeeds_cases (s : State) :
    (warmFeed s = true ∧ judgeFeeds s = s.modRing fun a => { a with converter := .ready, keepWarm := some 0 })
      ∨ (warmFeed s = false ∧ judgeFeeds s = s.modRing fun a => { a with converter := .off, keepWarm := none }) := by
  cases h : warmFeed s <;> simp [judgeFeeds, h]

/-- Without an occasion nothing is judged. -/
theorem judgeKeepWarm_cases (s : State) : judgeKeepWarm s = judgeFeeds s ∨ judgeKeepWarm s = s := by
  unfold judgeKeepWarm; split
  · exact .inl rfl
  · exact .inr rfl

@[simp] theorem line_judgeKeepWarm (s : State) (l : Line) : (judgeKeepWarm s).line l = s.line l := by
  rcases judgeKeepWarm_cases s with h | h <;> simp [h]

@[simp] theorem port_judgeKeepWarm (s : State) (p : Port) : (judgeKeepWarm s).port p = s.port p := by
  rcases judgeKeepWarm_cases s with h | h <;> simp [h]

/-- At the end of the last ring cadence a judgement is marked; elsewhere nothing is judged. -/
theorem judgeLastEnd_cases (s : State) :
    judgeLastEnd s = (judgeFeeds s).modRing (fun a => { a with judgedNow := true }) ∨ judgeLastEnd s = s := by
  unfold judgeLastEnd; split
  · exact .inl rfl
  · exact .inr rfl

@[simp] theorem line_judgeLastEnd (s : State) (l : Line) : (judgeLastEnd s).line l = s.line l := by
  rcases judgeLastEnd_cases s with h | h <;> simp [h]

@[simp] theorem port_judgeLastEnd (s : State) (p : Port) : (judgeLastEnd s).port p = s.port p := by
  rcases judgeLastEnd_cases s with h | h <;> simp [h]

/-- A judgement leaves the mark of the last ring cadence's end as it was. -/
@[simp] theorem judgeFeeds_judgedNow (s : State) : (judgeFeeds s).ring.judgedNow = s.ring.judgedNow := by
  rcases judgeFeeds_cases s with ⟨-, h⟩ | ⟨-, h⟩ <;> simp [h]

/-- A change of a feed mode field is judged at the moment of the last ring cadence's end, may turn a kept-warm converter OFF, and else does
nothing to the converter. -/
theorem feedChanged_cases (s : State) :
    (judgementStands s = true ∧ feedChanged s = judgeFeeds s)
      ∨ (judgementStands s = false ∧ s.ring.keepWarm.isSome = true ∧ warmFeed s = false
        ∧ feedChanged s = s.modRing fun a => { a with converter := .off, keepWarm := none })
      ∨ (judgementStands s = false ∧ feedChanged s = s) := by
  unfold feedChanged
  cases judgementStands s with
  | true => exact .inl ⟨rfl, rfl⟩
  | false =>
    by_cases h : s.ring.keepWarm.isSome = true ∧ warmFeed s = false
    · exact .inr (.inl ⟨rfl, h.1, h.2, by simp [h]⟩)
    · exact .inr (.inr ⟨rfl, by simp [h]⟩)

@[simp] theorem line_feedChanged (s : State) (l : Line) : (feedChanged s).line l = s.line l := by
  rcases feedChanged_cases s with ⟨-, h⟩ | ⟨-, -, -, h⟩ | ⟨-, h⟩ <;> simp [h]

@[simp] theorem port_feedChanged (s : State) (p : Port) : (feedChanged s).port p = s.port p := by
  rcases feedChanged_cases s with ⟨-, h⟩ | ⟨-, -, -, h⟩ | ⟨-, h⟩ <;> simp [h]

/-! ### What the detectors hear (R116, R59) -/

@[simp] theorem push_now (h : Heard) (v : Sample) : (h.push v).now = h.now ++ [v] := rfl

@[simp] theorem push_block (h : Heard) (v : Sample) : (h.push v).block = h.block := rfl

@[simp] theorem push_before (h : Heard) (v : Sample) : (h.push v).before = h.before := rfl

@[simp] theorem close_now (h : Heard) : h.close.now = [] := rfl

@[simp] theorem close_block (h : Heard) : h.close.block = h.now := rfl

@[simp] theorem close_before (h : Heard) : h.close.before = h.block := rfl

/-- A sample is heard on the line side as received and on the network side as delivered. -/
@[simp] theorem sampleLine_lineHeard (rx : Sample) (x : LineState) : (sampleLine rx x).lineHeard = x.lineHeard.push rx := rfl

@[simp] theorem sampleLine_netHeard (rx : Sample) (x : LineState) :
    (sampleLine rx x).netHeard = x.netHeard.push (playoutSample x.buf) := rfl

/-- A block of zero samples holds no tone, whatever the measurement (R125). -/
theorem heardReading_zero (choice : Nat) (h : Heard) (hz : ∀ v ∈ h.block, v = 0) : (heardReading choice h).tones = [] := by
  have : h.block.all (· == 0) = true := List.all_eq_true.mpr fun v hv => by simp [hz v hv]
  simp only [heardReading, this, if_true]

/-! ### What makes a block present (R122, R123) -/

/-- A calling tone stands in the window at the right level, and no other tone disturbs it. -/
theorem cngTone_iff (t : Tone) (others : List Tone) :
    cngTone t others = true ↔ nearTone 1100 38 t = true ∧ faxLevel t = true ∧ ∀ o ∈ others, disturbs t o = false := by
  simp [cngTone, and_assoc]

/-- A block holds the calling tone where one of its tones is one beside all the others. -/
theorem cngBlock_iff (b : BlockReading) :
    cngBlock b = true ↔ ∃ i t, b.tones[i]? = some t ∧ cngTone t (b.tones.eraseIdx i) = true := by
  unfold cngBlock
  rw [List.any_eq_true]
  constructor
  · rintro ⟨i, -, h⟩
    cases ht : b.tones[i]? with
    | none => simp [ht] at h
    | some t => exact ⟨i, t, ht, by simpa [ht] using h⟩
  · rintro ⟨i, t, ht, h⟩
    exact ⟨i, List.mem_range.mpr (List.getElem?_eq_some_iff.mp ht).1, by simpa [ht] using h⟩

theorem answerBlock_iff (b : BlockReading) :
    answerBlock b = true ↔ ∃ t ∈ b.tones, nearTone 2100 21 t = true ∧ faxLevel t = true := by
  simp [answerBlock]

/-! ### Serial data out (R176) -/

/-- Outside a READ the part sends 0x00. -/
theorem dataOut_outside_read (q : PortLink) (n : Nat) (h : q.transaction ≠ .read) : dataOut q n = 0 := by
  unfold dataOut; split
  · exact absurd ‹_› h
  · rfl

/-- In a READ the part sends the message under way from the send position on. -/
theorem dataOut_read (q : PortLink) (n : Nat) (h : q.transaction = .read) :
    dataOut q n = (messageUnderWay q).getD (q.sentBytes + n) 0 := by simp [dataOut, h]

end Sys2Proof.Machine
end

