-- ==== Sys2Proof/Tests/Slice0.lean ====
section
/-! SUPPORT. Tests of the model: the WellFormed checks, the spec's own worked examples, and one witness for the hypotheses of
every obligation that has some. Each expected value is the spec's, from the table or rule named beside it. -/

open Sys2Proof Sys2Proof.Machine Sys2Proof.Safety Sys2Proof.Claim

namespace Sys2Proof.Tests

/-! ### Small states -/

/-- What a command leaves, seen through `f`. -/
def got {α : Type} (o : Outcome) (f : State → α) : Option α :=
  match o with
  | .next s => some (f s)
  | .fault _ => none
  | .refused _ => none

/-- After reset, with Line 1 owned by Port A at generation 1 and no notice latched. -/
def owned : State :=
  { State.reset with
    line1 := { LineState.reset with owner := some .a, generation := 1 }
    portA := { PortLink.reset with flags := 0 }
    portB := { PortLink.reset with flags := 0 } }

/-- `owned` with Line 1 changed. -/
def on (f : LineState → LineState) : State := { owned with line1 := f owned.line1 }

/-- `owned` with the supervisor of Line 1 changed and its counter at `ms`. -/
def onSup (ms : Word) (f : Supervisor → Supervisor) : State := on fun x => { x with ms := ms, sup := f x.sup }

/-- `owned` with Port A changed. -/
def onPort (f : PortLink → PortLink) : State := { owned with portA := f owned.portA }

/-- `s` with Port A in a WRITE. -/
def writing (s : State) : State := { s with portA := { s.portA with transaction := .write } }

/-- Line 1 rings: RING at step 0, driven. -/
def ringing : State :=
  { on fun x => { x with cad := { x.cad with kind := .ring, timer := some { start := 0, length := 2000 },
                                             inHand := some { step := .timed .ring 200, pair := none } } } with
    ring := { RingArbiter.reset with converter := .driving .one } }

/-- Line 1 waits for the starting converter. -/
def awaitingStart (ms : Nat) : State :=
  { ringing with
    line1 := { ringing.line1 with cad := { ringing.line1.cad with timer := none } }
    ring := { RingArbiter.reset with converter := .starting, startTimer := some ms, waitList := [.one] } }

/-- Line 1 with its channel in this state and its buffer changed. -/
def call (v : ChannelState) (f : PlayoutBuffer → PlayoutBuffer) : State := on fun x => { x with buf := f { x.buf with state := v } }

/-- Line 1 with an open channel and its agreement changed. -/
def talk (f : MediaChannel → MediaChannel) : State :=
  on fun x => { x with buf := { x.buf with state := .playing }, chan := f x.chan }

/-- A reply, a media frame of Line 1, an event. -/
def aReply : Reply := { tag := 7, code := 1, result := .ok, data := [] }
def aFrame : MediaFrame := { line := .one, kind := .log8, sequence := 3, timestamp := 240, word := none, payload := List.replicate 80 0x7F }
def anEvent : EventRecord :=
  { kind := .flash, value := 0, time := 9, duration := 380, chatter := false, overrun := false, ringTrip := false }

/-- The frame record of sequence `q` with silent LOG8 payload. -/
def record (q : Word) : FrameRecord := { sequence := q, timestamp := 0, kind := .log8, payload := List.replicate 80 0x7F, arrival := 0 }

/-- Slots that hold the frames of these sequence numbers. -/
def slotsOf (qs : List Word) : Slots := qs.foldl (fun v q => v.set (slotOf q) (some (record q))) Slots.empty

/-- The MEDIA body that `record` comes from, on Line 1. -/
def bareBody (q : Word) : List Byte := [1, 0, hiByte q, loByte q, 0, 0, 0, 0] ++ List.replicate 80 0x7F

/-- A MEDIA body on Line 1 with these two mode word bytes. -/
def wordBody (w0 w1 : Byte) : List Byte := [1, 0x80, 0, 3, 0, 0, 0, 0, w0, w1] ++ List.replicate 80 0x7F

/-! ### WellFormed refuses ill-formed commands -/

/-- R178: a whole message is no part of one. -/
theorem test_wf_whole_message_is_not_cut : Instr.wellFormed (.chipSelectHigh .a [0x10, 0, 3, 1, 0, 0]) = false := by decide
/-- R178: its first five bytes are. -/
theorem test_wf_cut_message : Instr.wellFormed (.chipSelectHigh .a [0x10, 0, 3, 1, 0]) = true := by decide
/-- R177: a COMMAND of two bytes is foreign, no command taken. -/
theorem test_wf_short_command : Instr.wellFormed (.commandTaken .a [1, 5]) = false := by decide
theorem test_wf_short_command_is_foreign : Instr.wellFormed (.foreignMessage .a 0x10 [1, 5]) = true := by decide
/-- R177: MEDIA, and a COMMAND of three bytes, are not foreign. -/
theorem test_wf_media_is_not_foreign : Instr.wellFormed (.foreignMessage .a 0x30 []) = false := by decide
theorem test_wf_command_is_not_foreign : Instr.wellFormed (.foreignMessage .a 0x10 [1, 5, 1]) = false := by decide
/-- R177: a length is two bytes. -/
theorem test_wf_lengths_fit : fitsMessage 65535 = true ∧ fitsMessage 65536 = false := by decide
theorem test_wf_media_length (p : Port) (body : List Byte) (h : 65535 < body.length) :
    Instr.wellFormed (.mediaTaken p body) = false := by simp [Instr.wellFormed, fitsMessage]; omega
/-- R185: a code of the command table is not unknown. -/
theorem test_wf_known_code : Instr.wellFormed (.unknownCommand .a 0x54 5 1 []) = false := by decide
/-- Spec 10.3: a length byte holds at most 255. -/
theorem test_wf_caller_id_lengths (number name : List Byte) (h : 255 < number.length ∨ 255 < name.length) :
    Instr.wellFormed (.loadCallerId .a 5 1 0 0 0 0 0 0 0 number name) = false := by
  simp [Instr.wellFormed]; omega

/-! ### The spec's worked examples -/

/-- R32, R33: the table of LOG8 worked values. -/
theorem test_log8_encode_table :
    [0, 1000, BitVec.ofInt 16 (-1000), BitVec.ofInt 16 (-1), 32767, BitVec.ofInt 16 (-32768)].map log8Encode
      = [0x7F, 0x4E, 0xCE, 0xFE, 0x00, 0x80] := by decide
theorem test_log8_decode_table :
    ([0x7F, 0x4E, 0xCE, 0xFE, 0x00, 0x80].map fun c => (log8Decode c).toInt) = [0, 988, -988, -8, 32124, -32124] := by decide

/-- A mode word with this ability set and class. -/
def far (ability : BitVec 4) (k : MediaClass) : ModeWord := { ability := ability, ack := false, mediaClass := k, mode := .v8 }

/-- R38: the five rows of the choice table. -/
theorem test_choice_table :
    chooseMode 0b1111 .voice (far 0b0111 .voice) = ⟨.v16, false, false⟩
      ∧ chooseMode 0b1111 .data (far 0b0111 .voice) = ⟨.d8, false, false⟩
      ∧ chooseMode 0b1111 .voice (far 0b0011 .data) = ⟨.v16, true, false⟩
      ∧ chooseMode 0b1010 .data (far 0b0101 .data) = ⟨.v8, true, true⟩
      ∧ chooseMode 0b0010 .voice (far 0b0001 .voice) = ⟨.v8, false, true⟩ := by decide

/-- R52: the distances from 65530. -/
theorem test_distance_examples : distance 4 65530 = 10 ∧ distance 65520 65530 = -10 ∧ distance 32762 65530 = -32768 := by decide

/-- The table of spec 03 section 3.2, rows 2, 3, 5, 13, 14 and 16. -/
theorem test_classification_across_the_wrap :
    classify { PlayoutBuffer.reset with state := .priming, playoutPoint := some 65534, slots := slotsOf [65534] } 65533 = .early
      ∧ classify { PlayoutBuffer.reset with state := .priming, playoutPoint := some 65533, slots := slotsOf [65533, 65534] } 0 = .stored
      ∧ classify { PlayoutBuffer.reset with state := .playing, playoutPoint := some 65534, slots := slotsOf [65534, 0] } 65533 = .late
      ∧ classify { PlayoutBuffer.reset with state := .concealing, playoutPoint := some 2, slots := slotsOf [2] } 2 = .duplicate
      ∧ classify { PlayoutBuffer.reset with state := .concealing, playoutPoint := some 2, slots := slotsOf [2] } 73 = .ahead
      ∧ classify { PlayoutBuffer.reset with state := .concealing, playoutPoint := some 11, slots := slotsOf [73] } 40000 = .restart := by
  decide

/-- Spec 03, row 14: the playout point becomes 10 and frame 2 is discarded. -/
theorem test_ahead_moves_the_point :
    got (exec (.mediaTaken .a (bareBody 73)) (writing (on fun x =>
      { x with chan := { x.chan with agreement := .presumed }
               buf := { x.buf with state := .concealing, playoutPoint := some 2, slots := slotsOf [2] } })))
      (fun s => (s.line1.buf.playoutPoint, storedCount s.line1.buf.slots, s.line1.ctr.stored, s.line1.ctr.aheadDiscards))
      = some (some 10, 1, 1, 1) := by decide

/-- Spec 03, row 4: PRIMING ends with S = 2560, and 65533 is played. -/
theorem test_priming_ends :
    got (exec (.frameStart .one) (on fun x =>
      { x with buf := { x.buf with state := .priming, playoutPoint := some 65533, slots := slotsOf [65533, 65534, 0],
                                   period := { rest := [], trimmed := false } } }))
      (fun s => (s.line1.buf.state, s.line1.buf.playoutPoint, s.line1.depth.smoothed, s.line1.depth.target))
      = some (.playing, some 65534, 2560, 160) := by decide

/-- Spec 04 section 4.7: J16 over the first transits, and after the stall. -/
theorem test_jitter_table :
    [50, -60, 410, -20, -50].foldl (fun (js : List Int) d => js ++ [jitterUpdate (js.getLastD 0) d]) []
      = [50, 106, 509, 497, 515] ∧ jitterUpdate 515 6670 = 4578 ∧ jitterUpdate 4578 0 = 4291 := by decide
theorem test_target_table :
    [50, 106, 509, 497, 515, 4578].map (targetDepth ChannelParams.default .voice) = [160, 160, 176, 176, 179, 941] := by decide

/-- Spec 04 section 4.7, frame-start 4: S 6930 becomes 7136, a surplus, and 6496 after a 40-sample trim. -/
theorem test_surplus_trim :
    smoothUpdate 6930 640 4 = 7136
      ∧ trimDecision .voice { DepthTracker.reset with smoothed := 7136, target := 400, since := 4 } = .surplus
      ∧ (DepthTracker.afterTrim .voice { DepthTracker.reset with smoothed := 7136, target := 400, since := 4 } .surplus).smoothed = 6496
      ∧ (trimPeriod .voice silence .surplus).rest.length = 40 := by decide

/-- R110: an equal pulse_max and flash_min is refused and the defaults stay. -/
theorem test_hook_timing_order :
    got (exec (.setHookTiming .a 5 1 30 15 160 120 1100 300) owned) (fun s => (s.line1.sup.timing.pulseMax, s.portA.outbound))
      = some (110, [.reply { tag := 5, code := 0x21, result := .range, data := [] }]) := by decide

/-- Spec 05 section 5.10: b = 62 is a pulse, 4 is ignored, 380 a flash. -/
theorem test_break_classes :
    [62, 4, 380].map (breakClass { start := 0, breakMin := 15, pulseMax := 110, flashMin := 250, flashMax := 1100 })
      = [.pulse, .ignored, .flash] := by decide

/-- Spec 05 section 5.10: the interdigit expiry at 1461 stores PULSE_DIGIT 2. -/
theorem test_dialled_two :
    got (exec (.interdigitExpiry .one) (onSup 1461 fun v =>
      { v with state := .offHook, pulseCount := 2, interdigitTimer := some { start := 1161, length := 300 } }))
      (fun s => (s.line1.events.map fun e => (e.kind, e.value, e.time), s.line1.sup.pulseCount))
      = some ([(.pulseDigit, 2, 1461)], 0) := by decide

/-- Spec 05 section 5.10: the hang-up of 6100 has duration 1100. -/
theorem test_hang_up :
    got (exec (.hangUp .one) (onSup 6100 fun v =>
      { v with state := .inBreak, breakRecord := some { start := 5000, breakMin := 15, pulseMax := 110, flashMin := 250, flashMax := 1100 } }))
      (fun s => (s.line1.sup.state, s.line1.events.map fun e => (e.kind, e.duration))) = some (.onHook, [(.onHook, 1100)]) := by decide

/-- Spec 07 section 7.2: RING 500 is stored with 300, QUIET 0 with 1, and a level of -40 dBm0 as -30. -/
theorem test_table_clamps :
    (stepOfBytes 0 0 0x01 0xF4 0 0).map CadenceStep.duration = some 300
      ∧ (stepOfBytes 1 0 0 0 0 0).map CadenceStep.duration = some 1 ∧ (pairOfBytes 0 0 0 0 40).attenuation = 30 := by decide

/-- R131: the stutter dial JUMP; R143: nine jumps of the ten visits, so the register is loaded with 8. -/
theorem test_stutter_jump :
    jump 25 (.jumpTo 23 9) none = (some 23, some { owner := 25, remaining := 8 })
      ∧ jump 25 (.jumpTo 23 9) (some { owner := 25, remaining := 0 }) = (some 26, none) := by decide

/-- Spec 07 section 7.5: at 0 ms the line waits for the starting converter, and its feed has become NORMAL. -/
theorem test_default_ring_starts :
    got (exec (.ringStart .a 5 1 0) (onSup 0 fun v => { v with feed := .standby }))
      (fun s => (s.line1.sup.feed, s.line1.cad.current, ringStatus s .one, s.ring.converter)) = some (.normal, 0, .waiting, .starting) := by
  decide

/-- Spec 07 section 7.5: at 50 ms it is granted with a step timer of 2000 ms. -/
theorem test_default_ring_granted :
    got (exec .startTimerExpiry (awaitingStart 50)) (fun s => (ringStatus s .one, s.line1.cad.timer))
      = some (.burst, some { start := 0, length := 2000 }) := by decide

/-- R166: the message of a number withheld, and R168: 3600 samples of it. -/
theorem test_private_message :
    formMessage { dateTime := none, number := some (.absent .withheld), name := none } = [0x80, 0x03, 0x04, 0x01, 0x50, 0x28]
      ∧ transmissionSamples 6 = 3600 := by decide

/-- R118: 697 and 1336 Hz are the key 2, 941 and 1633 Hz the key D; the low level and the twist are judged. -/
theorem test_dtmf_pairs :
    dtmfBlock ⟨[⟨6970, -100⟩, ⟨13360, -100⟩], 0⟩ = some 2 ∧ dtmfBlock ⟨[⟨9410, -360⟩, ⟨16330, -360⟩], 0⟩ = some 15
      ∧ dtmfBlock ⟨[⟨6970, -361⟩, ⟨13360, -300⟩], 0⟩ = none ∧ dtmfBlock ⟨[⟨6970, -100⟩, ⟨13360, -59⟩], 0⟩ = none := by decide

/-- R122, R123: 1100 Hz alone and 2100 Hz are the fax tones. -/
theorem test_fax_tones :
    cngBlock ⟨[⟨11000, -200⟩], 0⟩ = true ∧ cngBlock ⟨[⟨11000, -200⟩, ⟨5000, -250⟩], 0⟩ = false
      ∧ answerBlock ⟨[⟨21000, -200⟩], 0⟩ = true ∧ answerBlock ⟨[⟨21220, -200⟩], 0⟩ = false := by decide

/-- R122: only another tone within 10 dB disturbs: neither one 30 dB louder nor one 11 dB below does. -/
theorem test_far_tones_do_not_disturb :
    cngBlock ⟨[⟨11000, -400⟩, ⟨5000, -100⟩], 0⟩ = true ∧ cngBlock ⟨[⟨11000, -200⟩, ⟨11100, -310⟩], 0⟩ = true
      ∧ cngBlock ⟨[⟨11000, -200⟩, ⟨11100, -300⟩], 0⟩ = false := by decide

/-- R125: a block of zero samples holds no tone. -/
theorem test_zero_block_is_absent (choice : Nat) :
    (heardReading choice { now := [], block := List.replicate 40 0, before := [5] }).tones = [] := rfl

/-- R59, R116: the sample that ends a block is its last, on the line side as received and on the network side as delivered. -/
theorem test_block_ends :
    got (exec (.lineSample 7 8) { on fun x => { x with
        lineHeard := { now := [6], block := [4], before := [] }, netHeard := { now := [2], block := [1], before := [] }
        buf := { x.buf with period := { rest := [3], trimmed := false } } } with tick := 39 })
      (fun s => (s.line1.lineHeard, s.line1.netHeard, s.line1.blockDue))
      = some ({ now := [], block := [6, 7], before := [4] }, { now := [], block := [2, 3], before := [1] }, true) := by decide

/-- R162, last row: SET_FEED OFF ends the last ring, and the other line's change to NORMAL at that moment is judged too. -/
theorem test_feed_changes_at_one_moment :
    ((got (exec (.setFeed .a 5 1 3) { ringing with
        line2 := { ringing.line2 with owner := some .a, sup := { ringing.line2.sup with feed := .standby } } }) fun s =>
      (s.ring.converter, got (exec (.setFeed .a 6 2 0) s) fun u => (u.ring.converter, u.ring.keepWarm))))
      = some (.off, some (.ready, some 0)) := by decide

/-- R159, R162: at the end of a start with both feeds STANDBY the converter is OFF, and a feed that becomes NORMAL then acts on
that state: it stays OFF. -/
theorem test_feed_change_after_a_start :
    ((got (exec .startTimerExpiry { owned with
        ring := { RingArbiter.reset with converter := .starting, startTimer := some 50 }
        line1 := { owned.line1 with sup := { owned.line1.sup with feed := .standby } }
        line2 := { owned.line2 with sup := { owned.line2.sup with feed := .standby } } }) fun s =>
      (s.ring.converter, got (exec (.setFeed .a 6 1 0) s) fun u => (u.ring.converter, u.ring.keepWarm))))
      = some (.off, some (.off, none)) := by decide

/-- R176: 0x00 in a WRITE; in a READ a reply's type, length and body. -/
theorem test_data_out :
    dataOut { PortLink.reset with transaction := .write, sending := .head, outbound := [.reply aReply] } 0 = 0
      ∧ (List.range 6).map (dataOut { PortLink.reset with transaction := .read, sending := .head, outbound := [.reply aReply] })
        = [0x20, 0, 3, 7, 1, 0] := by decide

/-- R2: the record of Line 2 after reset. -/
theorem test_read_line_after_reset :
    got (exec (.readLine .b 5 2) owned) (fun s => s.portB.outbound)
      = some [.reply { tag := 5, code := 0x13, result := .ok, data := [0, 0, 0, 1, 0, 0, 0, 0, 0, 0, 0, 0, 0, 0, 0] }] := by decide

/-- R1, R4: a CLAIM moves the line and counts its generation. -/
theorem test_claim :
    got (exec (.claim .b 5 1 1 1) owned) (fun s => (s.line1.owner, s.line1.generation)) = some (some .b, 2) := by decide

/-- R15: the seventeenth event is lost and marks the newest record. -/
theorem test_event_overrun :
    (appendEvent (List.replicate 16 anEvent) anEvent).length = 16
      ∧ ((appendEvent (List.replicate 16 anEvent) anEvent).getLast?.map EventRecord.overrun) = some true := by decide

/-- R187: EVENTS(1) is bit 0 and RESET_DONE bit 14. -/
theorem test_notice_bits : (Notice.events .one).bit = 0 ∧ Notice.resetDone.bit = 14 := by decide

/-- R28: the frame number 65536 carries sequence 0 and timestamp 5242880. -/
theorem test_uplink_numbers :
    got (exec (.uplinkBoundary .one) (talk fun c =>
      { c with nextSequence := 65535, nextTimestamp := 5242800, gathered := List.replicate 80 ⟨0, false⟩ }))
      (fun s => (s.line1.chan.nextSequence, s.line1.chan.nextTimestamp, s.line1.ctr.uplinkSent)) = some (0, 5242880, 1) := by decide

/-- No row of the table gives bits, so no word spells a command. -/
theorem test_no_word_spells_a_command : decodeTableWord 0 0 = none ∧ State.withFetchWord owned 8 1 = owned := by decide

/-! ### Witnesses: a state and operands that meet the hypotheses of each obligation, clause by clause -/

/-- Every port of `owned` executes at once. -/
theorem owned_free (p : Port) : Free owned p := by cases p <;> exact ⟨by decide, by decide⟩

/-- The ports of `on f` are those of `owned`. -/
theorem on_free (f : LineState → LineState) (p : Port) : Free (on f) p := by
  cases p <;> exact ⟨rfl, (by decide : (0 : Nat) < 8)⟩

theorem test_witness_NopAndUnknownReply :
    Free owned .a ∧ (0x00 : Byte) ∉ tableCodes ∧ (0x55 : Byte) ∉ tableCodes := ⟨owned_free _, by decide, by decide⟩

theorem test_witness_ReadNoticesTakesAndClears : Free owned .b := owned_free _

theorem test_witness_NoticeMaskReplaced : Free owned .a := owned_free _

/-- Port A with `n` NOPs waiting behind 8 replies. -/
def queued (n : Nat) : State :=
  onPort fun q => { q with fifo := List.replicate n (waiting 0x01 5 1 []), outbound := List.replicate 8 (.reply aReply) }

theorem test_witness_CommandWaitsOrIsLost :
    commandMessage (.nop .a 5 9) = some (.a, 0x01 :: 5 :: 9 :: [])
      ∧ ((queued 0).portA.fifo ≠ [] ∨ 8 ≤ replyCount (queued 0).portA) ∧ (queued 0).portA.fifo.length < 4
      ∧ ((queued 3).portA.fifo ≠ [] ∨ 8 ≤ replyCount (queued 3).portA) ∧ (queued 3).portA.fifo.length < 4
      ∧ ((queued 4).portA.fifo ≠ [] ∨ 8 ≤ replyCount (queued 4).portA) ∧ (queued 4).portA.fifo.length = 4
      ∧ (writing (queued 4)).portA.transaction = .write ∧ (writing (queued 4)).portA.fifo.length = 4 := by decide

theorem test_witness_TakenCommandsAndForeign :
    (writing owned).portA.transaction = .write ∧ Free (writing owned) .a
      ∧ (CommandCode.tableEnd ≠ .loadCallerId ∧ ([0] : List Byte).length ≠ argLength .tableEnd)
      ∧ (0xFF : Byte) ∉ tableCodes ∧ ([] : List Byte).length < 3 ∧ ([1, 5] : List Byte).length < 3 :=
  ⟨by decide, ⟨by decide, by decide⟩, by decide, by decide, by decide, by decide⟩

theorem test_witness_EncodedCommandActsAsItsRow :
    Instr.wellFormed (.setNoticeMask .a 5 9 0x8001) = true
      ∧ commandMessage (.setNoticeMask .a 5 9 0x8001) = some (.a, [0x03, 5, 9, 0x80, 0x01])
      ∧ Instr.wellFormed (.loadCallerId .a 5 1 2 0 0 0 0 2 0 [] []) = true
      ∧ (commandMessage (.loadCallerId .a 5 1 2 0 0 0 0 2 0 [] [])).isSome = true
      ∧ ((writing owned).port .a).transaction = .write := by decide

theorem test_witness_TransactionsBeginAndEnd :
    (owned.port .a).transaction = .none ∧ ((writing owned).port .a).transaction = .write
      ∧ ((writing owned).port .a).assembly = Assembly.empty ∧ CutsShort [0x10] ∧ CutsShort [0x10, 0, 3, 1, 0]
      ∧ ((0x00 : Byte) ≠ 0xA1 ∧ (0x00 : Byte) ≠ 0xA2) ∧ (owned.port .b).transaction ≠ .write :=
  ⟨by decide, by decide, by decide, ⟨by decide, .inl (by decide)⟩, ⟨by decide, .inr ⟨_, _, _, _, rfl, by decide⟩⟩, by decide,
    by decide⟩

/-- Serial data out: a WRITE, an EMPTY message, a reply at the head, and one that has left the queue. -/
theorem test_witness_TransactionsBeginAndEnd_dataOut (ms : List Message) :
    ((writing owned).port .a).transaction ≠ .read
      ∧ ∀ m, m = .emptyMessage ∨ m = .head ∨ m = .departed (.reply aReply) →
        ∃ q : PortLink, q.transaction = .read ∧ q.sentBytes = 0 ∧ q.sending = m ∧ q.outbound = .reply aReply :: ms :=
  ⟨by decide, fun m _ => ⟨{ PortLink.reset with transaction := .read, sending := m, outbound := .reply aReply :: ms }, rfl, rfl,
    rfl, rfl⟩⟩

/-- Port A in a READ that sends `m`. -/
def reading (m : Sending) (out : List Message) (fifo : List Command) : State :=
  onPort fun q => { q with transaction := .read, sending := m, outbound := out, fifo := fifo }

/-- Port A reads with 8 replies queued and these commands waiting. -/
def crowded (fifo : List Command) : State := reading .head (List.replicate 8 (.reply aReply)) fifo

theorem test_witness_MessageSentLeavesQueue :
    ((reading .head [.media aFrame] []).portA.fifo = [] ∧ (reading .head [.media aFrame] []).portA.sending = .head)
      ∧ (reading .emptyMessage [] []).portA.sending ≠ .head
      ∧ (reading (.departed (.media aFrame)) [.reply aReply] []).portA.sending ≠ .head
      ∧ (∀ fifo, (crowded fifo).portA.transaction = .read ∧ (crowded fifo).portA.sending = .head
        ∧ (crowded fifo).portA.outbound = .reply aReply :: List.replicate 7 (.reply aReply) ∧ replyCount (crowded fifo).portA = 8
        ∧ (crowded fifo).portA.fifo = fifo)
      ∧ (Instr.wellFormed (.setFeed .a 5 3 1) = true ∧ commandMessage (.setFeed .a 5 3 1) = some (.a, 0x20 :: 5 :: 3 :: [1]))
      ∧ (Instr.wellFormed (.deviceReset .a 5 0) = true ∧ commandMessage (.deviceReset .a 5 0) = some (.a, 0x16 :: 5 :: 0 :: [])) :=
  ⟨by decide, by decide, by decide, fun _ => ⟨rfl, rfl, rfl, rfl, rfl⟩, by decide, by decide⟩

theorem test_witness_OwnerCommandsRefused :
    (ownerRow (.release .a 5 0) = some (.a, 5, 0, 0x11) ∧ (0 : Byte) ≠ 1 ∧ (0 : Byte) ≠ 2 ∧ (0 : Byte) ≠ 3
        ∧ (4 : Byte) ≠ 1 ∧ (4 : Byte) ≠ 2 ∧ (4 : Byte) ≠ 3)
      ∧ (ownerRow (.setFeed .b 5 1 0) = some (.b, 5, 1, 0x20) ∧ (1 : Byte) = lineByte .one ∧ (owned.line .one).owner ≠ some .b)
      ∧ (ownerRow (.loadCallerId .b 5 3 2 0 0 0 0 2 0 [] []) = some (.b, 5, 3, 0x34) ∧ (owned.line .two).owner ≠ some .b)
      ∧ Free owned .a ∧ Free owned .b :=
  ⟨by decide, by decide, by decide, owned_free _, owned_free _⟩

/-- Both lines owned by Port A. -/
def ownedBoth : State := { owned with line2 := { owned.line2 with owner := some .a } }

theorem test_witness_OwnerCommandsOnAll :
    ownerRow (.lineReset .a 5 3) = some (.a, 5, 3, 0x15) ∧ Free ownedBoth .a
      ∧ ((ownedBoth.line .one).owner = some .a ∧ (ownedBoth.line .two).owner = some .a)
      ∧ ((owned.line .one).owner = some .a ∧ (owned.line (otherLine .one)).owner ≠ some .a) :=
  ⟨by decide, ⟨by decide, by decide⟩, by decide, by decide⟩

/-- Line 1's frame stands in its owner's queue, and a command waits for the next step. -/
def busy : State := { onPort fun q => { q with outbound := [.reply aReply, .media aFrame] } with pending := [.nop .a 5 1] }

theorem test_witness_QueuesKeptSound : QueuesSound busy ∧ ∃ t, step busy = .next t := by
  refine ⟨fun p => ⟨?_, ?_, ?_⟩, _, rfl⟩
  · cases p <;> exact ⟨by decide, by decide, by decide⟩
  · cases p <;> exact fun h => absurd rfl h
  · intro f h
    cases p with
    | a => simp [busy, onPort, State.port] at h; subst h; decide
    | b => simp [busy, onPort, owned, State.port, PortLink.reset] at h

/-- Port B claims, and Port A releases and hands over, Line 1 of `owned`. -/
theorem changes_claim : ChangesOwner (.claim .b 5 1 1 1) owned .b 5 .one (some .b) 0x10 :=
  .inl ⟨rfl, by decide, rfl, rfl⟩
theorem changes_release : ChangesOwner (.release .a 5 1) owned .a 5 .one none 0x11 := .inr (.inl ⟨rfl, rfl, rfl, rfl⟩)
theorem changes_handOver : ChangesOwner (.handOver .a 5 1) owned .a 5 .one (some .b) 0x12 := .inr (.inr ⟨rfl, rfl, rfl, rfl⟩)

theorem test_witness_OwnerChangeMovesLine :
    (ChangesOwner (.claim .b 5 1 1 1) owned .b 5 .one (some .b) 0x10 ∧ Free owned .b)
      ∧ (ChangesOwner (.release .a 5 1) owned .a 5 .one none 0x11 ∧ Free owned .a)
      ∧ (ChangesOwner (.handOver .a 5 1) owned .a 5 .one (some .b) 0x12 ∧ Free owned .a) :=
  ⟨⟨changes_claim, owned_free _⟩, ⟨changes_release, owned_free _⟩, ⟨changes_handOver, owned_free _⟩⟩

theorem test_witness_ClaimHeldOrKept :
    Free owned .a ∧ (some Port.b ≠ (owned.line .one).owner ∨ (1 : Word) ≠ (owned.line .one).generation)
      ∧ (some Port.a ≠ (owned.line .one).owner ∨ (0 : Word) ≠ (owned.line .one).generation)
      ∧ ((owned.line .one).owner = some .a ∧ (1 : Word) = (owned.line .one).generation) ∧ 2 < (3 : Byte).toNat :=
  ⟨owned_free _, by decide, by decide, by decide, by decide⟩

/-- Port A, the owner of Line 1, is sending a frame of it, and an event waits. -/
def leaving (out : List Message) : State :=
  { on fun x => { x with events := [anEvent] } with
    portA := { owned.portA with transaction := .read, sending := .head, outbound := out } }

theorem test_witness_OwnerChangeAtPorts :
    (ChangesOwner (.handOver .a 5 1) (leaving [.media aFrame]) .a 5 .one (some .b) 0x12 ∧ Free (leaving [.media aFrame]) .a
        ∧ ((leaving [.media aFrame]).line .one).owner = some .a ∧ ((leaving [.media aFrame]).port .a).sending = .head
        ∧ ((leaving [.media aFrame]).port .a).outbound = .media aFrame :: [] ∧ aFrame.line = .one
        ∧ ((leaving [.media aFrame]).line .one).owner ≠ some .b ∧ ((leaving [.media aFrame]).line .one).events ≠ [])
      ∧ (ChangesOwner (.release .a 5 1) (leaving [.reply aReply]) .a 5 .one none 0x11 ∧ Free (leaving [.reply aReply]) .a
        ∧ ((leaving [.reply aReply]).port .a).outbound = .reply aReply :: [])
      ∧ (ChangesOwner (.claim .b 5 2 0 0) owned .b 5 .two (some .b) 0x10 ∧ (owned.line .two).owner = none) :=
  ⟨⟨.inr (.inr ⟨rfl, rfl, rfl, rfl⟩), ⟨rfl, by decide⟩, rfl, rfl, rfl, rfl, by decide, by decide⟩,
    ⟨.inr (.inl ⟨rfl, rfl, rfl, rfl⟩), ⟨rfl, by decide⟩, rfl⟩, .inl ⟨rfl, by decide, rfl, rfl⟩, rfl⟩

/-- A matched call with a splice pending and a frame waiting for it. -/
def splicing : State :=
  on fun x => { x with chan := { x.chan with agreement := .presumed }
                       buf := { x.buf with state := .draining, splicePending := true, spliceQueue := [record 9] } }

theorem test_witness_OwnerChangeAtChannel :
    (ChangesOwner (.handOver .a 5 1) owned .a 5 .one (some .b) 0x12 ∧ Free owned .a ∧ (owned.line .one).buf.state = .closed)
      ∧ (ChangesOwner (.handOver .a 5 1) splicing .a 5 .one (some .b) 0x12 ∧ Free splicing .a
        ∧ (splicing.line .one).buf.state ≠ .closed ∧ (splicing.line .one).chan.agreement ≠ .advertise)
      ∧ (ChangesOwner (.release .a 5 1) (call .priming id) .a 5 .one none 0x11
        ∧ ((call .priming id).line .one).buf.state.isOpen = true) :=
  ⟨⟨changes_handOver, owned_free _, rfl⟩, ⟨.inr (.inr ⟨rfl, rfl, rfl, rfl⟩), on_free _ _, by decide, by decide⟩,
    .inr (.inl ⟨rfl, rfl, rfl, rfl⟩), rfl⟩

theorem test_witness_GenerationCountsOwners :
    (∀ p, FifoWaits (owned.port p)) ∧ Instr.handOver .a 5 1 ≠ .powerOnReset ∧ ∃ t, exec (.handOver .a 5 1) owned = .next t :=
  ⟨fun p => by cases p <;> exact fun h => absurd rfl h, by decide, _, rfl⟩

theorem test_witness_ReadLineReports :
    Free ringing .b ∧ (ringing.line .one).cad.kind ≠ .none
      ∧ ((owned.line .two).cad.kind = .none ∧ owned.ring.converter ≠ .driving .two ∧ .two ∉ owned.ring.waitList) :=
  ⟨⟨by decide, by decide⟩, by decide, by decide⟩

theorem test_witness_ReadEventsTakesEight :
    Free (leaving []) .a ∧ ((leaving []).line .one).owner = some .a
      ∧ Free (on fun x => { x with events := List.replicate 16 anEvent }) .a :=
  ⟨⟨by decide, by decide⟩, by decide, on_free _ _⟩

/-- The quiet line of `on` is bounded while it changes no bounded part. -/
theorem bounded_reset : LineBounded LineState.reset := by
  refine ⟨by unfold EventsBounded; decide, ⟨by decide, by decide⟩, ⟨by decide, by decide, by decide, by decide⟩, fun _ => by decide,
    fun h => absurd rfl h⟩

theorem test_witness_LineBoundsKept :
    (∀ l, LineBounded (busy.line l)) ∧ ∃ t, step busy = .next t := by
  refine ⟨fun l => ?_, _, rfl⟩
  cases l <;> exact ⟨by unfold EventsBounded; decide, ⟨by decide, by decide⟩, ⟨by decide, by decide, by decide, by decide⟩,
    fun _ => by decide, fun h => absurd rfl h⟩

/-- Line 1 is driven, and Line 2 rings and waits behind it. -/
def ringingBoth : State :=
  { ringing with
    line2 := { ringing.line2 with cad := { ringing.line1.cad with timer := none } }
    ring := { ringing.ring with waitList := [.two] } }

theorem test_witness_LineResetQuiets :
    (Free owned .a ∧ (owned.line .one).owner = some .a ∧ (owned.line .one).cad.kind ≠ .ring)
      ∧ (Free ringing .a ∧ (ringing.line .one).owner = some .a ∧ (ringing.line .one).cad.kind = .ring ∧ ListSound .one ringing)
      ∧ (Free ringingBoth .a ∧ (ringingBoth.line .one).owner = some .a ∧ (ringingBoth.line .one).cad.kind = .ring
        ∧ ListSound .one ringingBoth) :=
  ⟨⟨owned_free _, by decide, by decide⟩, ⟨⟨by decide, by decide⟩, by decide, by decide, fun _ => by decide⟩,
    ⟨⟨by decide, by decide⟩, by decide, by decide, fun _ => by decide⟩⟩

theorem test_witness_DeviceResetJudged :
    (Free owned .b ∧ ∃ l, (owned.line l).owner = some (otherPort .b))
      ∧ (Free (leaving [.media aFrame]) .a ∧ (∀ l, ((leaving [.media aFrame]).line l).owner ≠ some (otherPort .a))
        ∧ ((leaving [.media aFrame]).port .a).sending = .head
        ∧ ((leaving [.media aFrame]).port .a).outbound = .media aFrame :: []) :=
  ⟨⟨owned_free _, .one, by decide⟩, ⟨by decide, by decide⟩, fun l => by cases l <;> decide, rfl, rfl⟩

theorem test_witness_TablePointerMoves : Free owned .a ∧ (79 : Byte).toNat < 80 ∧ 79 < (80 : Byte).toNat :=
  ⟨owned_free _, by decide, by decide⟩

/-- Port A's pointer at `i`. -/
def pointing (i : Fin 80) (h : Option (Fin 80)) : State := onPort fun q => { q with pointer := i, hold := h }

theorem test_witness_TableWriteStoresClamped :
    Free (pointing 63 none) .a ∧ Free (pointing 64 none) .a ∧ Free (pointing 79 none) .a
      ∧ (((pointing 63 none).port .a).pointer.val < 64 ∧ actionByte .stop = 5 ∧ 5 < (6 : Byte).toNat)
      ∧ (((pointing 64 none).port .a).pointer.val - 64 < 16 ∧ 64 ≤ ((pointing 64 none).port .a).pointer.val)
      ∧ (((pointing 79 none).port .a).pointer.val - 64 < 16 ∧ 64 ≤ ((pointing 79 none).port .a).pointer.val) :=
  ⟨⟨by decide, by decide⟩, ⟨by decide, by decide⟩, ⟨by decide, by decide⟩, by decide, by decide, by decide⟩

theorem table_63 : owned.steps[63] = { action := .stop, tone := 0, duration := 1, target := 0, count := 0 } := by decide
theorem table_64 : owned.pairs[0] = { f1 := 350, f2 := 440, attenuation := 13 } := by decide

/-- A step and a pair have their six bytes, and hold is on or off. -/
theorem test_witness_TableReadAndHold :
    Free (pointing 63 none) .a ∧ Free (pointing 64 (some 3)) .a
      ∧ (∃ data : List Byte,
        (∀ h : ((pointing 63 none).port .a).pointer.val < 64, ∀ e,
          (pointing 63 none).steps[((pointing 63 none).port .a).pointer.val] = e →
          data = byteOf ((pointing 63 none).port .a).pointer.val :: [actionByte e.action, byteOf e.tone.val,
            hiByte (BitVec.ofNat 16 e.duration), loByte (BitVec.ofNat 16 e.duration), byteOf e.target.val, byteOf e.count])
        ∧ ¬ 64 ≤ ((pointing 63 none).port .a).pointer.val)
      ∧ (∃ data : List Byte,
        (∀ h : ((pointing 64 (some 3)).port .a).pointer.val - 64 < 16, ∀ q,
          (pointing 64 (some 3)).pairs[((pointing 64 (some 3)).port .a).pointer.val - 64] = q →
          data = byteOf ((pointing 64 (some 3)).port .a).pointer.val :: [hiByte (BitVec.ofNat 16 q.f1),
            loByte (BitVec.ofNat 16 q.f1), hiByte (BitVec.ofNat 16 q.f2), loByte (BitVec.ofNat 16 q.f2), byteOf q.attenuation, 0])
        ∧ ¬ ((pointing 64 (some 3)).port .a).pointer.val < 64)
      ∧ ((pointing 63 none).port .a).hold = none ∧ ((pointing 64 (some 3)).port .a).hold = some 3 :=
  ⟨⟨by decide, by decide⟩, ⟨by decide, by decide⟩, ⟨[63, 5, 0, 0, 1, 0, 0], fun _ _ he => by cases he.symm.trans table_63; rfl, by decide⟩,
    ⟨[64, 0x01, 0x5E, 0x01, 0xB8, 13, 0], fun _ _ hq => by cases hq.symm.trans table_64; rfl, by decide⟩,
    rfl, rfl⟩

theorem test_witness_FeedFollowsSetFeed :
    Free owned .a ∧ (owned.line .one).owner = some .a ∧ 3 < (4 : Byte).toNat
      ∧ (onSup 0 fun v => { v with state := .offHook }).line1.sup.state = .offHook ∧ (ringing.line .one).cad.kind = .ring
      ∧ (feedByte .reversed = 1 ∧ ¬ (FeedMode.reversed = .standby ∧ ((owned.line .one).sup.state = .offHook
          ∨ (owned.line .one).sup.state = .inBreak ∨ (owned.line .one).cad.kind = .ring))
        ∧ (owned.line .one).sup.feed ≠ .reversed ∧ FeedMode.reversed ≠ .off ∧ (owned.line .one).sup.feed ≠ .off)
      ∧ (feedByte .off = 3 ∧ FeedMode.off ≠ .standby ∧ (owned.line .one).cad.kind ≠ .ring ∧ Quiet (owned.line .one))
      ∧ ((ringing.line .one).sup.feed ≠ .off ∧ Quiet (ringing.line .one) ∧ ringing.ring.keepWarm = none ∧ ListSound .one ringing)
      ∧ (onSup 0 fun v => { v with feed := .off, state := .down }).line1.sup.feed = .off :=
  ⟨owned_free _, by decide, by decide, by decide, by decide, by decide,
    ⟨by decide, by decide, by decide, by decide, fun _ => by decide⟩,
    ⟨by decide, ⟨by decide, fun _ => by decide⟩, by decide, fun _ => by decide⟩, by decide⟩

theorem test_witness_HookTimingClamped :
    Free owned .a ∧ (owned.line .one).owner = some .a
      ∧ (10 = max 10 (min 200 (0 : Word).toNat) ∧ 5 = max 5 (min 50 (0 : Word).toNat) ∧ 150 = max 40 (min 150 (200 : Word).toNat)
        ∧ 151 = max 150 (min 1500 (151 : Word).toNat) ∧ 151 = max 151 (min 2000 (0 : Word).toNat)
        ∧ 800 = max 150 (min 800 (900 : Word).toNat) ∧ 5 < 150 ∧ 150 < 151)
      ∧ (50 = max 5 (min 50 (50 : Word).toNat) ∧ 40 = max 40 (min 150 (40 : Word).toNat) ∧ 40 ≤ 50)
      ∧ (150 = max 40 (min 150 (160 : Word).toNat) ∧ 150 = max 150 (min 1500 (120 : Word).toNat) ∧ 150 ≤ 150) :=
  ⟨owned_free _, by decide, by decide, by decide, by decide⟩

/-- A supervisor in state `v` with these three readings and filtered state. -/
def hook (v : Supervision) (a b c filtered : Bool) : State :=
  onSup 0 fun u => { u with state := v, samples := ⟨a, b, c⟩, filteredOffHook := filtered }

theorem test_witness_HookReadingsAndEdges :
    (offHookMajority (hook .onHook true true false false).line1.sup.samples
        ∧ (hook .onHook true true false false).line1.sup.filteredOffHook = false
        ∧ (hook .onHook true true false false).line1.sup.state = .onHook)
      ∧ (∀ v, ¬ offHookMajority (hook v false true false true).line1.sup.samples
        ∧ (hook v false true false true).line1.sup.filteredOffHook = true ∧ (hook v false true false true).line1.sup.state = v) :=
  ⟨⟨by unfold offHookMajority; decide, by decide, by decide⟩, fun v => ⟨by cases v <;> (unfold offHookMajority; decide), rfl, rfl⟩⟩

/-- An ON_HOOK line whose qualification of `q` ms began at 0, at `ms`. -/
def qualifying (ms : Word) (q : Nat) : State :=
  onSup ms fun v => { v with samples := ⟨true, true, true⟩, filteredOffHook := true, qualification := some ⟨0, q⟩ }

/-- The same on the ringing line. -/
def answering (ms : Word) : State :=
  { qualifying ms 30 with line1 := { (qualifying ms 30).line1 with cad := ringing.line1.cad }, ring := ringing.ring }

theorem test_witness_OffHookQualifies :
    ((qualifying 30 30).line1.sup.state = .onHook ∧ (qualifying 30 30).line1.sup.qualification = some ⟨0, 30⟩
        ∧ TonesRest (qualifying 30 30).line1
        ∧ (qualifying 30 30).line1.cad.kind ≠ .ring ∧ 30 ≤ ((qualifying 30 30).line1.ms - 0).toNat)
      ∧ ((answering 15).line1.sup.state = .onHook ∧ (answering 15).line1.sup.qualification = some ⟨0, 30⟩
        ∧ TonesRest (answering 15).line1 ∧ (answering 15).line1.cad.kind = .ring
        ∧ 15 ≤ ((answering 15).line1.ms - 0).toNat ∧ (answering 15).line1.sup.feed ≠ .standby ∧ ListSound .one (answering 15)) :=
  ⟨⟨by decide, by decide, fun _ => by decide, by decide, by decide⟩, by decide, by decide, fun _ => by decide,
    by decide, by decide, by decide, fun _ => by decide⟩

/-- A break of `b` ms with `n` pulses counted and the default parameters. -/
def breaking (b : Word) (n : Nat) : State :=
  onSup b fun v => { v with state := .inBreak, samples := ⟨true, true, true⟩, pulseCount := n
                            breakRecord := some { start := 0, breakMin := 15, pulseMax := 110, flashMin := 250, flashMax := 1100 } }

/-- Every length from 0 to flash_max, and every pulse count, meets the premises; the classes meet at 15, 110 and 250. -/
theorem test_witness_BreakClassified (b : Word) (n : Nat) (h : b.toNat ≤ 1100) :
    (breaking b n).line1.sup.state = .inBreak
      ∧ (breaking b n).line1.sup.breakRecord
        = some { start := 0, breakMin := 15, pulseMax := 110, flashMin := 250, flashMax := 1100 }
      ∧ offHookMajority (breaking b n).line1.sup.samples ∧ (breaking b n).line1.sup.filteredOffHook = false
      ∧ b.toNat = ((breaking b n).line1.ms - 0).toNat ∧ b.toNat ≤ 1100 ∧ (breaking b n).line1.sup.pulseCount = n := by
  refine ⟨rfl, rfl, .inl ⟨rfl, rfl⟩, rfl, ?_, h, rfl⟩
  show b.toNat = (b - 0).toNat
  simp

theorem test_witness_HangUpAtFlashMax :
    (breaking 1100 3).line1.sup.state = .inBreak
      ∧ (breaking 1100 3).line1.sup.breakRecord
        = some { start := 0, breakMin := 15, pulseMax := 110, flashMin := 250, flashMax := 1100 }
      ∧ 1100 ≤ ((breaking 1100 3).line1.ms - 0).toNat
      ∧ Quiet (breaking 1100 3).line1 ∧ (breaking 1100 3).line1.cad.kind ≠ .ring :=
  ⟨rfl, rfl, by decide, ⟨by decide, fun _ => by decide⟩, by decide⟩

/-- `n` pulses counted, the interdigit timer begun at 0. -/
def dialling (ms : Word) (n : Nat) : State :=
  onSup ms fun v => { v with state := .offHook, pulseCount := n, interdigitTimer := some { start := 0, length := 300 } }

theorem test_witness_InterdigitEmitsDigit :
    ((dialling 300 11).line1.sup.interdigitTimer = some { start := 0, length := 300 } ∧ (dialling 300 11).line1.sup.pulseCount = 11
        ∧ 300 ≤ ((dialling 300 11).line1.ms - 0).toNat)
      ∧ ((dialling 299 1).line1.sup.pulseCount = 1 ∧ ((dialling 299 1).line1.ms - 0).toNat < 300) := by decide

/-- A fed line with overcurrent since 0, at `ms`. -/
def shorted (ms : Word) (openSeries : Bool) : State :=
  onSup ms fun v => { v with overcurrent := true, overcurrentTimer := some 0, seriesOpen := openSeries }

/-- The same with Line 1 driven and Line 2 waiting behind it. -/
def shortedRinging (openSeries : Bool) : State :=
  { ringingBoth with line1 := { (shorted 50 openSeries).line1 with cad := ringing.line1.cad } }

theorem test_witness_LoopFaultRemovesFeed :
    ((owned.line .one).sup.state ≠ .down ∧ (owned.line .one).sup.overcurrentTimer = none)
      ∧ ∀ o, (shorted 50 o).line1.sup.state ≠ .down ∧ (shorted 50 o).line1.sup.overcurrentTimer = some 0
        ∧ 50 ≤ ((shorted 50 o).line1.ms - 0).toNat ∧ Quiet (shorted 50 o).line1
        ∧ (shorted 50 o).line1.sup.seriesOpen = o ∧ (shorted 50 o).line1.cad.kind ≠ .ring
        ∧ (shortedRinging o).line1.sup.state ≠ .down ∧ (shortedRinging o).line1.sup.overcurrentTimer = some 0
        ∧ 50 ≤ ((shortedRinging o).line1.ms - 0).toNat ∧ Quiet (shortedRinging o).line1
        ∧ (shortedRinging o).line1.cad.kind = .ring ∧ ListSound .one (shortedRinging o) :=
  ⟨by decide, fun o => ⟨(by decide : Supervision.onHook ≠ .down), rfl, (by decide : 50 ≤ ((50 : Word) - 0).toNat),
    ⟨rfl, fun _ => ⟨rfl, rfl, rfl, rfl, rfl, rfl, rfl, rfl⟩⟩, rfl, (by decide : CadenceKind.none ≠ .ring),
    (by decide : Supervision.onHook ≠ .down), rfl, (by decide : 50 ≤ ((50 : Word) - 0).toNat),
    ⟨rfl, fun _ => ⟨rfl, rfl, rfl, rfl, rfl, rfl, rfl, rfl⟩⟩, rfl, fun _ => (by decide : Line.one ∉ ([.two] : List Line))⟩⟩

theorem test_witness_FaultRetryAndRestore :
    ((onSup 1000 fun v => { v with state := .down, retryTimer := some 0 }).line1.sup.retryTimer = some 0
        ∧ 1000 ≤ ((1000 : Word) - 0).toNat)
      ∧ ((onSup 50 fun v => { v with restoreCheck := some 0 }).line1.sup.restoreCheck = some 0 ∧ 50 ≤ ((50 : Word) - 0).toNat) := by decide

/-- The converter READY with nobody waiting, around `owned`. -/
def warm : State := { owned with ring := { RingArbiter.reset with converter := .ready } }

/-- `s` with this converter and wait list. -/
def arbiter (v : Converter) (list : List Line) (s : State) : State :=
  { s with ring := { RingArbiter.reset with converter := v, waitList := list } }

theorem test_witness_RingStartRequests :
    Free owned .a ∧ (owned.line .one).owner = some .a ∧ (hook .offHook true true true true).line1.sup.state ≠ .onHook
      ∧ ((owned.line .one).sup.state = .onHook ∧ 63 < (64 : Byte).toNat)
      ∧ ((28 : Fin 64).val = (28 : Byte).toNat ∧ owned.steps[(28 : Fin 64)].action = .quiet ∧ owned.ring.judgedNow = false
        ∧ (owned.line .one).cad.kind = .none ∧ (owned.line .one).sup.qualification = none)
      ∧ ((0 : Fin 64).val = (0 : Byte).toNat ∧ owned.steps[(0 : Fin 64)].action = .ring ∧ owned.ring.waitList = []
        ∧ owned.ring.converter = .off)
      ∧ (∀ n, ({ warm with ring := { warm.ring with keepWarm := n } } : State).ring.converter = .ready
        ∧ ({ warm with ring := { warm.ring with keepWarm := n } } : State).ring.waitList = []
        ∧ ({ warm with ring := { warm.ring with keepWarm := n } } : State).ring.judgedNow = false)
      ∧ ((arbiter .starting [.two] owned).ring.keepWarm = none ∧ (arbiter .starting [.two] owned).ring.converter = .starting
        ∧ (arbiter (.driving .two) [] owned).ring.converter = .driving (otherLine .one))
      ∧ (Free ringing .a ∧ (ringing.line .one).cad.kind = .ring ∧ (ringing.line .one).sup.qualification = none
        ∧ (ringing.line .one).cid.state = .idle ∧ fullFeed (ringing.line .one).sup.feed = true ∧ ringing.ring.keepWarm = none
        ∧ ringing.ring.judgedNow = false ∧ ringing.ring.converter = .driving .one ∧ ringing.ring.waitList = []
        ∧ ringingBoth.ring.waitList = [otherLine .one] ∧ (awaitingStart 0).ring.converter = .starting)
      ∧ (Free (qualifying 15 30) .a ∧ (qualifying 15 30).line1.sup.qualification = some ⟨0, 30⟩
        ∧ 15 ≤ ((qualifying 15 30).line1.ms - 0).toNat ∧ TonesRest (qualifying 15 30).line1
        ∧ (qualifying 15 30).line1.cid.state = .idle ∧ (qualifying 15 30).line1.cad.kind = .none
        ∧ (qualifying 15 30).ring.converter = .off)
      ∧ ∀ q, (qualifying 14 30).line1.sup.qualification = some q → ((qualifying 14 30).line1.ms - q.start).toNat < 15 :=
  ⟨owned_free _, by decide, by decide, by decide, by decide, by decide, fun _ => ⟨rfl, rfl, rfl⟩, by decide,
    ⟨⟨by decide, by decide⟩, by decide⟩, ⟨⟨by decide, by decide⟩, by decide, by decide, fun _ => by decide, by decide⟩,
    fun _ h => by cases h; decide⟩

/-- Line 1 sends caller-ID between two bursts. -/
def sendingSeizure : State :=
  { ringing with
    line1 := { ringing.line1 with cad := { ringing.line1.cad with timer := none }, cid := { ringing.line1.cid with state := .seizure } }
    ring := { RingArbiter.reset with converter := .ready } }

theorem test_witness_RingStopEnds :
    (Free owned .a ∧ (owned.line .one).owner = some .a ∧ (owned.line .one).cad.kind ≠ .ring)
      ∧ ∀ s, s = ringing ∨ s = ringingBoth ∨ s = awaitingStart 0 ∨ s = sendingSeizure →
        Free s .a ∧ (s.line .one).owner = some .a ∧ (s.line .one).cad.kind = .ring ∧ ListSound .one s
          ∧ ∀ q, (s.line .one).sup.qualification = some q → ((s.line .one).ms - q.start).toNat < q.offQualify := by
  refine ⟨⟨owned_free _, by decide, by decide⟩, ?_⟩
  rintro s (rfl | rfl | rfl | rfl) <;>
    exact ⟨⟨by decide, by decide⟩, by decide, by decide, fun h => by revert h; decide, fun _ h => by cases h⟩

/-- Line 1 plays the tone of step 23, begun at 0, at `ms`. -/
def sounding (ms : Word) (current : Fin 64) : State :=
  { onSup ms fun v => { v with state := .offHook } with
    line1 := { (onSup ms fun v => { v with state := .offHook }).line1 with
      cad := { CadenceEngine.reset with kind := .tone, index := 23, current := current, timer := some { start := 0, length := 100 } } } }

theorem test_witness_ToneStartsAndStops :
    (Free owned .a ∧ (owned.line .one).owner = some .a ∧ (owned.line .one).sup.state = .onHook
        ∧ (owned.line .one).cad.kind ≠ .tone)
      ∧ (Free (hook .inBreak false false false false) .a ∧ (hook .inBreak false false false false).line1.sup.state = .inBreak
        ∧ (23 : Fin 64).val = (23 : Byte).toNat
        ∧ (hook .inBreak false false false false).steps[(23 : Fin 64)].action = .tone ∧ 63 < (64 : Byte).toNat
        ∧ (hook .inBreak false false false false).line1.cad.kind = .none)
      ∧ (Free (sounding 0 23) .a ∧ (sounding 0 23).line1.cad.kind = .tone) :=
  ⟨⟨owned_free _, by decide⟩, ⟨⟨by decide, by decide⟩, by decide⟩, ⟨by decide, by decide⟩, by decide⟩

/-- Line 1 in a tone cadence at step 23 at its expiry, with the pair `q` in hand, and `e` at step 24. -/
def expiring (q : Option TonePair) (e : CadenceStep) : State :=
  { sounding 100 23 with
    steps := owned.steps.set 24 e
    line1 := { (sounding 100 23).line1 with
      cad := { (sounding 100 23).line1.cad with inHand := some { step := .timed .tone 10 3, pair := q } } } }

/-- Line 1 at the expiry of a ring cadence's step 23, not driven, with or without a record, and `e` at step 24. -/
def pausing (record : Option LoadedCallerId) (e : CadenceStep) : State :=
  { expiring none e with
    line1 := { (expiring none e).line1 with
      cad := { (expiring none e).line1.cad with kind := .ring }, cid := { CallerIdTx.reset with loaded := record } } }

/-- The same with Line 1 driven and this wait list. -/
def bursting (list : List Line) (e : CadenceStep) : State :=
  { pausing none e with ring := { RingArbiter.reset with converter := .driving .one, waitList := list } }

/-- Each action at step 24 of a tone cadence; phases that start, go on, and start afresh; a jump, counted and not, to 25, which is
QUIET, and one to itself. Each action of a ring cadence's pause, and of a burst with nobody and with Line 2 waiting. -/
theorem test_witness_StepTimerAdvances :
    (∀ s, (∃ q e, s = expiring q e) ∨ (∃ r e, s = pausing r e) ∨ (∃ w e, s = bursting w e) →
      (s.line .one).cad.timer = some { start := 0, length := 100 } ∧ (24 : Fin 64).val = (s.line .one).cad.current.val + 1
        ∧ 100 ≤ ((s.line .one).ms - 0).toNat ∧ (s.line .one).cad.zeroRun = 0 ∧ (s.line .one).cad.loop = none)
      ∧ (∀ q e, (expiring q e).line1.cad.kind = .tone ∧ (expiring q e).ring.converter ≠ .driving .one
        ∧ (expiring q e).line1.cad.inHand = some { step := .timed .tone 10 3, pair := q })
      ∧ (∀ r e, (pausing r e).line1.cad.kind = .ring ∧ (pausing r e).ring.converter ≠ .driving .one
        ∧ (pausing r e).line1.cid.loaded = r)
      ∧ (∀ w e, (bursting w e).line1.cad.kind = .ring ∧ (bursting w e).ring.converter = .driving .one
        ∧ (bursting w e).ring.waitList = w ∧ (otherLine .one) = .two ∧ (bursting w e).line2.cad.kind ≠ .ring)
      ∧ (∀ a, (expiring none (.plain a)).steps[(24 : Fin 64)].action = a)
      ∧ TonePhases none owned.pairs[0] CadenceEngine.reset 0 0
      ∧ TonePhases (some owned.pairs[0]) owned.pairs[0] { CadenceEngine.reset with phase1 := 5, phase2 := 6 } 5 6
      ∧ TonePhases (some owned.pairs[0]) owned.pairs[1] { CadenceEngine.reset with phase1 := 5, phase2 := 6 } 0 0
      ∧ ((25 : Fin 64).val = (24 : Fin 64).val + 1 ∧ owned.steps[(25 : Fin 64)].action = .jump
        ∧ owned.steps[(24 : Fin 64)].action = .quiet ∧ owned.steps[(28 : Fin 64)].action = .quiet)
      ∧ ((CadenceStep.jumpTo 28 0).count = 0 ∧ 1 ≤ (CadenceStep.jumpTo 28 1).count ∧ (CadenceStep.jumpTo 24 0).target = 24)
      ∧ ((sounding 99 23).line1.cad.timer = some { start := 0, length := 100 } ∧ ((sounding 99 23).line1.ms - 0).toNat < 100) := by
  refine ⟨?_, fun _ _ => ⟨rfl, (by decide : Converter.off ≠ .driving .one), rfl⟩,
    fun _ _ => ⟨rfl, (by decide : Converter.off ≠ .driving .one), rfl⟩,
    fun _ _ => ⟨rfl, rfl, rfl, rfl, (by decide : CadenceKind.none ≠ .ring)⟩, fun a => by cases a <;> rfl, .inl ⟨rfl, rfl, rfl⟩,
    .inr (.inl ⟨rfl, by decide, rfl, rfl⟩), .inr (.inr ⟨_, rfl, by decide⟩), by decide, by decide, by decide⟩
  rintro s (⟨q, e, rfl⟩ | ⟨r, e, rfl⟩ | ⟨w, e, rfl⟩) <;>
    exact ⟨rfl, rfl, (by decide : 100 ≤ ((100 : Word) - 0).toNat), rfl, rfl⟩

theorem test_witness_CountedJumpLoops :
    (1 ≤ (CadenceStep.jumpTo 23 9).count ∧ ∀ g : LoopRegister, none = some g → g.owner ≠ 25)
      ∧ (1 ≤ (CadenceStep.jumpTo 0 255).count
        ∧ ∀ g, some (LoopRegister.mk 24 3) = some g → g.owner ≠ 25) :=
  ⟨⟨by decide, fun _ h => by cases h⟩, by decide, fun _ h => by cases h; decide⟩

theorem test_witness_ConverterTimers :
    ((awaitingStart 50).ring.startTimer = some 50 ∧ (awaitingStart 50).ring.waitList = .one :: []
        ∧ ((awaitingStart 50).line .one).cad.inHand = some { step := .timed .ring 200, pair := none })
      ∧ (({ owned with ring := { RingArbiter.reset with converter := .starting, startTimer := some 50 } } : State).ring.waitList = []
        ∧ ∀ l, (owned.line l).cad.kind ≠ .ring)
      ∧ ({ RingArbiter.reset with converter := .ready, keepWarm := some 5000 } : RingArbiter).keepWarm = some 5000
      ∧ (∀ n, (awaitingStart 49).ring.startTimer = some n → n < 50)
      ∧ ∀ n, (ringing.ring.keepWarm = some n → n < 5000) :=
  ⟨by decide, ⟨by decide, fun l => by cases l <;> decide⟩, by decide, fun _ h => by cases h; decide, fun _ h => by cases h⟩

theorem test_witness_RingKeptSound :
    RingSound { ringing with pending := [.nop .a 5 1] } ∧ ∃ t, step { ringing with pending := [.nop .a 5 1] } = .next t := by
  refine ⟨⟨by decide, fun l => ?_⟩, _, rfl⟩
  cases l <;> decide

theorem test_witness_CallerIdLoaded :
    Free owned .a ∧ (owned.line .one).owner = some .a ∧ (owned.line .one).sup.state = .onHook
      ∧ (owned.line .one).cid.state = .idle
      ∧ (∀ n : List Byte, n = List.replicate 15 0x39 → 1 ≤ n.length ∧ n.length ≤ 15 ∧ ∀ c ∈ n, 0x30 ≤ c.toNat ∧ c.toNat ≤ 0x39)
      ∧ (∀ n : List Byte, n = List.replicate 32 0x7E →
        1 ≤ n.length ∧ n.length ≤ 32 ∧ ∀ c ∈ n.take 15, 0x20 ≤ c.toNat ∧ c.toNat ≤ 0x7E)
      ∧ (1 ≤ (12 : Byte).toNat ∧ (12 : Byte).toNat ≤ 12 ∧ (31 : Byte).toNat ≤ 31 ∧ (23 : Byte).toNat ≤ 23 ∧ (59 : Byte).toNat ≤ 59)
      ∧ (hook .offHook true true true true).line1.sup.state ≠ .onHook :=
  ⟨owned_free _, by decide, by decide, by decide, fun _ h => by subst h; decide, fun _ h => by subst h; decide, by decide,
    by decide⟩

/-- The loaded record of a number withheld. -/
def withheld : LoadedCallerId :=
  { record := { dateTime := none, number := some (.absent .withheld), name := none }, message := [0x80, 0x03, 0x04, 0x01, 0x50, 0x28] }

theorem test_witness_TransmissionLasts : ({ CallerIdTx.reset with loaded := some withheld } : CallerIdTx).loaded = some withheld := rfl

/-- Line 1's transmission stands at bit `n` of its data. -/
def sendingCid (n : Nat) : State :=
  on fun x => { x with cid := { x.cid with loaded := some withheld, state := .data, bitPos := n }
                       cad := { x.cad with kind := .ring, current := 2 } }

theorem test_witness_CidDoneHandsBack :
    ((sendingCid 60).line .one).cid.loaded = some withheld ∧ ((sendingCid 60).line .one).cid.state = .data
      ∧ ((sendingCid 60).line .one).cad.kind = .ring ∧ (3 : Fin 64).val = ((sendingCid 60).line .one).cad.current.val + 1
      ∧ (sendingCid 60).steps[(3 : Fin 64)].action = .quiet
      ∧ 10 * withheld.message.length ≤ ((sendingCid 60).line .one).cid.bitPos
      ∧ ((sendingCid 59).line .one).cid.bitPos < 10 * withheld.message.length := by decide

theorem test_witness_ChannelOpensCall :
    Free owned .a ∧ (owned.line .one).owner = some .a ∧ ((call .draining id).line .one).buf.state ≠ .closed
      ∧ ((owned.line .one).buf.state = .closed ∧ 15 < (16 : Byte).toNat)
      ∧ ((15 : Byte) ≠ 0 ∧ (15 : Byte).toNat ≤ 15)
      ∧ ∃ q : ChannelParams, q.tmin = max 80 (min 2400 (3000 : Word).toNat) ∧ q.tmax = max q.tmin (min 4800 (2000 : Word).toNat)
        ∧ q.dataTarget = max 400 (min 4800 (0 : Word).toNat) ∧ q.kVoice = max 2 (min 8 (9 : Byte).toNat)
        ∧ q.kData = max 2 (min 8 (0 : Byte).toNat) ∧ (q.relay = true ↔ (2 : Byte) ≠ 0) ∧ q.triggerCng = (1 : Byte).getLsbD 0
        ∧ q.triggerAns = (1 : Byte).getLsbD 1 :=
  ⟨owned_free _, by decide, by decide, by decide, by decide, ⟨2400, 2400, 400, 8, 2, true, true, false⟩, by decide⟩

theorem test_witness_ChannelClosesDrainsAndFlushes :
    Free owned .a ∧ (owned.line .one).buf.state = .closed
      ∧ (Free (call .draining id) .a ∧ ((call .draining id).line .one).owner = some .a
        ∧ ((call .draining id).line .one).buf.state = .draining ∧ ((call .draining id).line .one).buf.period.trimmed = false)
      ∧ (∀ v, v.isOpen = true → Free (call v id) .a ∧ ((call v id).line .one).buf.state.isOpen = true)
      ∧ (digitActive ((call .playing id).line .one).det.dtmf = false ∧ ((call .playing id).line .one).det.ansLine = .idle
        ∧ ((call .playing id).line .one).det.ansNet = .idle) :=
  ⟨owned_free _, by decide, ⟨on_free _ _, by decide⟩, fun _ h => ⟨on_free _ _, h⟩, by decide⟩

/-- A far word of every mode in class DATA. -/
def farAll : ModeWord := { ability := 0b1111, ack := false, mediaClass := .data, mode := .v8 }

theorem test_witness_AgreementCommandsAct :
    (Free owned .a ∧ (owned.line .one).owner = some .a ∧ (owned.line .one).buf.state.isOpen = false)
      ∧ (Free (talk id) .a ∧ ((talk id).line .one).owner = some .a ∧ ((talk id).line .one).buf.state.isOpen = true
        ∧ 1 < (2 : Byte).toNat ∧ ((talk id).line .one).chan.agreement = .advertise)
      ∧ (((talk fun c => { c with agreement := .confirmed }).line .one).chan.agreement = .confirmed
        ∧ ((talk fun c => { c with agreement := .confirmed }).line .one).chan.flags.noCommon = false
        ∧ (2 : Byte).getLsbD ((talk fun c => { c with agreement := .confirmed }).line .one).chan.mode.bit = false
        ∧ (1 : Byte).getLsbD ((talk fun c => { c with agreement := .confirmed }).line .one).chan.mode.bit = true)
      ∧ ((15 : Byte) ≠ 0 ∧ (15 : Byte).toNat ≤ 15 ∧ 15 < (16 : Byte).toNat
        ∧ ((talk fun c => { c with agreement := .matched, farWord := some farAll }).line .one).chan.agreement = .matched
        ∧ ((talk fun c => { c with agreement := .matched, farWord := some farAll }).line .one).chan.farWord = some farAll) :=
  ⟨⟨owned_free _, by decide⟩, ⟨on_free _ _, by decide⟩, by decide, by decide⟩

theorem test_witness_CountersReportedAndCleared (clear : Byte) :
    Free owned .b ∧ ∃ zeroed : Line → State → State, ∀ l t, zeroed l t = if clear = 0 then t else t.modCtr l fun _ =>
      { stored := 0, late := 0, duplicate := 0, aheadDiscards := 0, restarts := 0, concealed := 0, samplesRemoved := 0,
        samplesInserted := 0, spliceDrops := 0, stray := 0, closedArrivals := 0, uplinkSent := 0, uplinkUnrouted := 0,
        uplinkDropped := 0, agreementRestarts := 0 } := ⟨owned_free _, _, fun _ _ => rfl⟩

/-- Line 1 with `n` samples gathered, and the outbound queue of its owner. -/
def gathering (n : Nat) (sending : Sending) (out : List Message) : State :=
  { talk fun c => { c with gathered := List.replicate n ⟨5, false⟩ } with
    portA := { owned.portA with sending := sending, outbound := out } }

theorem test_witness_UplinkFrameBuiltAndRouted :
    (((gathering 80 .nothing []).line .one).buf.state.isOpen = true ∧ 80 ≤ ((gathering 80 .nothing []).line .one).chan.gathered.length
        ∧ ((gathering 80 .nothing []).line .one).owner = some .a
        ∧ mediaCount ((gathering 80 .nothing (List.replicate 23 (.media aFrame))).port .a) < 24)
      ∧ (((gathering 80 .nothing (.reply aReply :: List.replicate 24 (.media aFrame))).port .a).outbound
          = [.reply aReply] ++ .media aFrame :: List.replicate 23 (.media aFrame)
        ∧ mediaCount ((gathering 80 .nothing (.reply aReply :: List.replicate 24 (.media aFrame))).port .a) = 24
        ∧ ((gathering 80 .nothing (.reply aReply :: List.replicate 24 (.media aFrame))).port .a).sending ≠ .head
        ∧ (∀ m ∈ [Message.reply aReply], m.isReply = true))
      ∧ (((gathering 80 .head (List.replicate 24 (.media aFrame))).port .a).outbound
          = [.media aFrame] ++ .media aFrame :: List.replicate 22 (.media aFrame)
        ∧ mediaCount ((gathering 80 .head (List.replicate 24 (.media aFrame))).port .a) = 24
        ∧ ((gathering 80 .head (List.replicate 24 (.media aFrame))).port .a).sending = .head)
      ∧ ((gathering 79 .nothing []).line .one).chan.gathered.length < 80
      ∧ ((call .priming id).line .one).owner = some .a ∧ (State.reset.line .two).owner = none := by decide

/-- The bare body of sequence `q` is formed, and its record is `record q` on a channel that has counted no sample. -/
theorem bareBody_formed (q : Word) : BodyFormed (bareBody q) :=
  ⟨1, 0, hiByte q, loByte q, 0, 0, 0, 0, List.replicate 80 0x7F, rfl, .inl rfl, .inl rfl, by simp, fun h => by simp at h⟩

theorem bareBody_record : BareBody .one 0 (bareBody 73) (record 73) :=
  ⟨0, 0, 73, 0, 0, 0, 0, List.replicate 80 0x7F, rfl, by decide, by decide, by decide, rfl, rfl, .inl ⟨by decide, rfl, by simp⟩⟩

theorem wordBody_word (w0 w1 : Byte) (w : ModeWord) (hf : w1.toNat / 16 % 4 < 2) (hm : w1.toNat % 8 < 4)
    (ha : w.ability = BitVec.ofNat 4 w0.toNat) (hk : w.ack = w1.getLsbD 7)
    (hc : w.mediaClass = (if w1.toNat / 16 % 4 = 0 then .voice else .data))
    (hw : w1.toNat % 8 = (match w.mode with | .v8 => 0 | .v16 => 1 | .d8 => 2 | .d16 => 3)) :
    WordBody .one w (wordBody w0 w1) :=
  ⟨⟨1, 0x80, 0, 3, 0, 0, 0, 0, w0 :: w1 :: List.replicate 80 0x7F, rfl, .inl rfl, .inl rfl, by simp,
      fun _ => ⟨w0, w1, List.replicate 80 0x7F, rfl, hf, hm⟩⟩,
    0x80, 0, 3, 0, 0, 0, 0, w0, w1, List.replicate 80 0x7F, rfl, by decide, ha, hk, hc, hw⟩

/-- A frame of the owner of an open line is taken. -/
theorem writing_sends (f : MediaChannel → MediaChannel) : OwnerSends .a .one (writing (talk f)) := ⟨rfl, rfl, rfl⟩

/-- The line of `taken` is open with this buffer and outside ADVERTISE. -/
def taken (f : PlayoutBuffer → PlayoutBuffer) : State :=
  writing (on fun x => { x with chan := { x.chan with agreement := .presumed }, buf := f { x.buf with state := .playing } })

theorem test_witness_MediaJudgedAndCounted :
    ((writing owned).port .a).transaction = .write ∧ ¬ BodyFormed [1, 0]
      ∧ (BodyFormed (bareBody 73) ∧ (bareBody 73).head? = some (lineByte .one)
        ∧ ((writing State.reset).line .one).owner ≠ some .a)
      ∧ (((writing owned).line .one).owner = some .a ∧ ((writing owned).line .one).buf.state.isOpen = false)
      ∧ ∀ n, n ≤ 8 → (BareBody .one 0 (bareBody 73) (record 73)
        ∧ OwnerSends .a .one (taken fun b => { b with splicePending := true, spliceQueue := List.replicate n (record 9) })
        ∧ ((taken fun b => { b with splicePending := true, spliceQueue := List.replicate n (record 9) }).line .one).chan.sampleCounter = 0
        ∧ ((taken fun b => { b with splicePending := true, spliceQueue := List.replicate n (record 9) }).line .one).chan.agreement
          ≠ .advertise
        ∧ ((taken fun b => { b with splicePending := true, spliceQueue := List.replicate n (record 9) }).line
            .one).buf.spliceQueue.length = n) := by
  refine ⟨rfl, ?_, ⟨bareBody_formed _, rfl, by decide⟩, ⟨rfl, rfl⟩, fun n _ =>
    ⟨bareBody_record, ⟨rfl, rfl, rfl⟩, rfl, (by decide : Agreement.presumed ≠ .advertise), List.length_replicate⟩⟩
  rintro ⟨_, _, _, _, _, _, _, _, _, h, _⟩
  simp at h

/-- Sequence 73 against a playout point at each end of each range of distances: 0 and 63, -1 and -1023, 64 and 1023, -1024 and
1024; EARLY at -63 and not at -64, and not with a stored frame 64 after it. -/
theorem test_witness_ArrivalsClassified :
    (OwnerSends .a .one (taken id) ∧ BareBody .one ((taken id).line .one).chan.sampleCounter (bareBody 73) (record 73)
        ∧ ((taken id).line .one).chan.agreement ≠ .advertise ∧ ((taken id).line .one).buf.splicePending = false
        ∧ ((taken id).line .one).buf.playoutPoint = none)
      ∧ (∀ P : Word, OwnerSends .a .one (taken fun b => { b with playoutPoint := some P })
        ∧ BareBody .one ((taken fun b => { b with playoutPoint := some P }).line .one).chan.sampleCounter (bareBody 73) (record 73)
        ∧ ((taken fun b => { b with playoutPoint := some P }).line .one).chan.agreement ≠ .advertise
        ∧ ((taken fun b => { b with playoutPoint := some P }).line .one).buf.splicePending = false)
      ∧ ([73, 10, 74, 1096, 9, BitVec.ofInt 16 (-950), 1097, BitVec.ofInt 16 (-951)].map
          fun P : Word => ((record 73).sequence - P).toInt) = [0, 63, -1, -1023, 64, 1023, -1024, 1024]
      ∧ (∃ g, Holds (slotsOf [73]) (record 73).sequence g) ∧ (∀ g, ¬ Holds (slotsOf [8]) (record 73).sequence g)
      ∧ (((record 136).sequence - (record 73).sequence).toInt ≤ 63 ∧ ¬ ((record 137).sequence - (record 73).sequence).toInt ≤ 63) := by
  refine ⟨⟨⟨rfl, rfl, rfl⟩, bareBody_record, by decide, rfl, rfl⟩, fun P =>
    ⟨⟨rfl, rfl, rfl⟩, bareBody_record, (by decide : Agreement.presumed ≠ .advertise), rfl⟩, by decide,
    ⟨record 73, by unfold Holds; decide⟩, ?_, by decide⟩
  rintro g ⟨h, -⟩
  exact absurd (h.symm.trans (by decide : (slotsOf [8])[slotOf (record 73).sequence] = none)) (by simp)

/-- At the end of a period, with the channel in state `v`, the playout point at 3 and `since` frames since an adjustment. -/
def starting (v : ChannelState) (qs : List Word) (smoothed : Int) (since m : Nat) : State :=
  on fun x => { x with buf := { x.buf with state := v, playoutPoint := some 3, slots := slotsOf qs, missing := m,
                                           period := { rest := [], trimmed := false } }
                       depth := { x.depth with smoothed := smoothed, since := since } }

/-- The same on a data call. -/
def startingData (qs : List Word) (smoothed : Int) (since : Nat) : State :=
  { starting .playing qs smoothed since 0 with
    line1 := { (starting .playing qs smoothed since 0).line1 with
      chan := { (starting .playing qs smoothed since 0).line1.chan with mode := .d8 } } }

/-- The same with a queued stream that starts at 9 and reaches the end of its window. -/
def switching (v : ChannelState) : State :=
  { starting v [4] 0 0 0 with
    line1 := { (starting v [4] 0 0 0).line1 with
      buf := { (starting v [4] 0 0 0).line1.buf with splicePending := true, spliceQueue := [record 9, record 72] } } }

/-- The frame after the last is not stored. -/
theorem absent_three (v : ChannelState) (r : FrameRecord) : ¬ Holds ((starting v [4] 0 0 0).line .one).buf.slots 3 r := by
  rintro ⟨h, -⟩
  exact absurd (h.symm.trans (by decide : (slotsOf [4])[slotOf 3] = none)) (by simp)

/-- Silent LOG8 payload decodes to 80 samples of 0, and the value 988 to two bytes of LIN16. -/
theorem decoded_silence (q : Word) : Decoded (record q) (List.replicate 80 0) := by
  refine ⟨fun _ => ?_, nofun⟩
  have h : Log8Sample 0x7F 0 := ⟨0, 0, 0, by decide, by decide, by decide, by decide⟩
  show List.Forall₂ Log8Sample (List.replicate 80 0x7F) (List.replicate 80 0)
  generalize 80 = n
  induction n with
  | zero => exact .nil
  | succ n ih => exact .cons h ih
theorem decoded_lin16 : Decoded { record 3 with kind := .lin16, payload := [0x03, 0xDC] } [988] :=
  ⟨nofun, fun _ => by decide⟩

/-- In each state the premises meet: the frame at P stored or not, D = T, S at both edges of the band and one sixteenth beyond
each, F below and at the rate limit, in both classes, and m one below and at the concealment limit; a re-prime request, a switch
whose frames span 63, and a drained buffer with P unset. -/
theorem test_witness_FrameStartChoosesPeriod :
    ((owned.line .one).buf.period.rest ≠ [] ∧ ∀ v qs a b c, ((starting v qs a b c).line .one).buf.period.rest = []
        ∧ ((starting v qs a b c).line .one).chan.reprime = false
        ∧ NoSwitch ((starting v qs a b c).line .one).buf ∧ ((starting v qs a b c).line .one).buf.state = v
        ∧ ((starting v qs a b c).line .one).buf.playoutPoint = some 3
        ∧ ((starting v qs a b c).line .one).chan.mode.mediaClass = .voice)
      ∧ (((call .playing fun b => { b with period := { rest := [], trimmed := false } }).modChan .one fun c =>
          { c with reprime := true }).line .one).chan.reprime = true
      ∧ (∀ v, ((switching v).line .one).buf.splicePending = true ∧ ((switching v).line .one).buf.spliceQueue = record 9 :: [record 72]
        ∧ (∀ g ∈ [record 72], 0 ≤ (g.sequence - (record 9).sequence).toInt ∧ (g.sequence - (record 9).sequence).toInt ≤ 63)
        ∧ ((switching v).line .one).buf.state = v ∧ ∀ r, ¬ Holds ((switching v).line .one).buf.slots 3 r)
      ∧ ((∀ v, Holds ((starting v [3] 0 0 0).line .one).buf.slots 3 (record 3))
        ∧ depthOf ((starting .priming [3] 0 0 0).line .one).buf < targetNow ((starting .priming [3] 0 0 0).line .one))
      ∧ (Holds ((starting .priming [3, 4] 0 0 0).line .one).buf.slots 3 (record 3)
        ∧ targetNow ((starting .priming [3, 4] 0 0 0).line .one) ≤ depthOf ((starting .priming [3, 4] 0 0 0).line .one).buf)
      ∧ ((starting .playing [3, 4] 9999 3 0).line .one).depth.since < 4
      ∧ (smoothedNow ((starting .playing [3, 4] 1878 4 0).line .one) (depthOf ((starting .playing [3, 4] 1878 4 0).line .one).buf)
          = 16 * ((targetNow ((starting .playing [3, 4] 1878 4 0).line .one) - 40 : Nat) : Int)
        ∧ smoothedNow ((starting .playing [3, 4] 1877 4 0).line .one) (depthOf ((starting .playing [3, 4] 1877 4 0).line .one).buf)
          < 16 * ((targetNow ((starting .playing [3, 4] 1877 4 0).line .one) - 40 : Nat) : Int))
      ∧ (smoothedNow ((starting .concealing [3, 4] 3243 4 0).line .one)
            (depthOf ((starting .concealing [3, 4] 3243 4 0).line .one).buf)
          = 16 * ((targetNow ((starting .concealing [3, 4] 3243 4 0).line .one) + 40 : Nat) : Int)
        ∧ 16 * ((targetNow ((starting .concealing [3, 4] 3244 4 0).line .one) + 40 : Nat) : Int)
          < smoothedNow ((starting .concealing [3, 4] 3244 4 0).line .one)
            (depthOf ((starting .concealing [3, 4] 3244 4 0).line .one).buf))
      ∧ (((startingData [3] 9000 25).line .one).chan.mode.mediaClass = .data ∧ ((startingData [3] 9000 25).line .one).depth.since = 25
        ∧ smoothedNow ((startingData [3] 9000 25).line .one) (depthOf ((startingData [3] 9000 25).line .one).buf)
          < 16 * ((targetNow ((startingData [3] 9000 25).line .one) - 8 : Nat) : Int))
      ∧ (∀ v r, ¬ Holds ((starting v [4] 0 0 0).line .one).buf.slots 3 r)
      ∧ (((starting .playing [4] 0 0 3).line .one).buf.missing + 1 < 5 ∧ 5 ≤ ((starting .playing [4] 0 0 4).line .one).buf.missing + 1)
      ∧ (owned.line .one).buf.lastPlayed = none
      ∧ (((call .draining fun b => { b with period := { rest := [], trimmed := false } }).line .one).buf.playoutPoint = none
        ∧ ((call .draining fun b => { b with period := { rest := [], trimmed := false } }).line .one).buf.state = .draining)
      ∧ Decoded (record 3) (List.replicate 80 0) := by
  refine ⟨⟨by decide, fun v _ _ _ _ => ⟨rfl, rfl, .inl rfl, rfl, rfl, rfl⟩⟩, rfl,
    fun v => ⟨rfl, rfl, by decide, rfl, absent_three v⟩, ⟨fun v => ?_, by decide⟩,
    ⟨by unfold Holds; decide, by decide⟩, by decide, by decide, by decide, by decide, absent_three, by decide, rfl, by decide,
    decoded_silence 3⟩
  exact (by unfold Holds; decide : Holds (slotsOf [3]) 3 (record 3))

/-- A word of every mode with class DATA: with ACK 0 and with ACK 1; and one of another set. -/
theorem test_witness_AgreementFollowsWords :
    (∀ f, OwnerSends .a .one (writing (talk f)))
      ∧ (WordBody .one farAll (wordBody 0x0F 0x10) ∧ WordBody .one { farAll with ack := true } (wordBody 0x0F 0x90)
        ∧ WordBody .one { farAll with ability := 0b0001 } (wordBody 0x01 0x10))
      ∧ (∀ a, ((writing (talk fun c => { c with agreement := a, farWord := some farAll, choice := some .d16 })).line
            .one).chan.agreement = a
        ∧ ((writing (talk fun c => { c with agreement := a, farWord := some farAll, choice := some .d16 })).line
            .one).chan.farWord = some farAll)
      ∧ (∀ n, BareBody .one ((writing (talk fun c => { c with bareCount := n })).line .one).chan.sampleCounter (bareBody 73) (record 73)
        ∧ ((writing (talk fun c => { c with bareCount := n })).line .one).chan.agreement = .advertise
        ∧ ((writing (talk fun c => { c with bareCount := n })).line .one).chan.bareCount = n)
      ∧ (∀ t, ((talk fun c => { c with agreementTimer := some t }).line .one).chan.agreementTimer = some t)
      ∧ 2000 ≤ ((2000 : Word) - 0).toNat ∧ ((1999 : Word) - 0).toNat < 2000 :=
  ⟨writing_sends, ⟨wordBody_word _ _ _ (by decide) (by decide) (by decide) (by decide) (by decide) (by decide),
    wordBody_word _ _ _ (by decide) (by decide) (by decide) (by decide) (by decide) (by decide),
    wordBody_word _ _ _ (by decide) (by decide) (by decide) (by decide) (by decide) (by decide)⟩,
    fun _ => ⟨rfl, rfl⟩, fun _ => ⟨bareBody_record, rfl, rfl⟩, fun _ => rfl, by decide, by decide⟩

theorem test_witness_AgreementKeptSound :
    (∀ l, AgreementSound ({ talk fun c => { c with agreement := .matched, farWord := some farAll, choice := some .v8 } with
        pending := [.nop .a 5 1] }.line l).chan)
      ∧ ∃ t, step { talk fun c => { c with agreement := .matched, farWord := some farAll, choice := some .v8 } with
        pending := [.nop .a 5 1] } = .next t := by
  refine ⟨fun l => ?_, _, rfl⟩
  cases l
  · exact fun _ => ⟨fun _ => ⟨farAll, .v8, rfl, rfl, by decide, by decide⟩, fun h => by cases h⟩
  · exact fun _ => ⟨fun h => absurd h (by decide), fun h => absurd h (by decide)⟩

theorem test_witness_SlotsKeptWindowed :
    (∀ l, SlotsWindowed ({ starting .playing [66] 0 0 0 with pending := [.nop .a 5 1] }.line l).buf)
      ∧ ∃ t, step { starting .playing [66] 0 0 0 with pending := [.nop .a 5 1] } = .next t := by
  refine ⟨fun l i r h => ?_, _, rfl⟩
  cases l
  · have hi : slotOf 66 = i := by
      by_contra hne
      have : (Slots.empty.set (slotOf 66) (some (record 66)))[i] = some r := h
      rw [Fin.getElem_fin, Vector.getElem_set_ne _ _ (fun hv => hne (Fin.ext hv))] at this
      simp [Slots.empty] at this
    subst hi
    have h66 : (some (record 66)) = some r := Eq.trans (by decide) h
    cases h66
    exact ⟨rfl, 3, rfl, by decide, by decide⟩
  · have : (Slots.empty)[i] = some r := h
    simp [Slots.empty] at this

/-- Key 1 at its lowest row frequency and level, with the largest twist that R118 allows. -/
theorem keyOne : KeyTones 0 0 ⟨[⟨6831, -360⟩, ⟨12331, -320⟩], 0⟩ :=
  ⟨⟨6831, -360⟩, ⟨12331, -320⟩, rfl, by decide, by decide, by decide, by decide, by decide⟩

/-- Line 1 at a block boundary on an open channel, all five detectors running. -/
def judging (f : Detectors → Detectors) : State :=
  on fun x => { x with blockDue := true, buf := { x.buf with state := .playing }
                       det := f { Detectors.reset with
                         dtmfRun := ⟨true, false⟩, cngLineRun := ⟨true, false⟩, cngNetRun := ⟨true, false⟩
                         ansLineRun := ⟨true, false⟩, ansNetRun := ⟨true, false⟩ } }

/-- All five run while one is not IDLE. -/
theorem judging_runs (st : DtmfState) (c : CngState) (w : AnswerState) (k : Side) :
    (AllRun ((judging fun d => { d with dtmf := st }).line .one).det
        ∧ DtmfAlone st ((judging fun d => { d with dtmf := st }).line .one).det)
      ∧ (AllRun ((judging (withCng k c)).line .one).det ∧ CngAlone k c ((judging (withCng k c)).line .one).det)
      ∧ (AllRun ((judging (withAns k w)).line .one).det ∧ AnsAlone k w ((judging (withAns k w)).line .one).det) := by
  cases k <;> exact ⟨⟨⟨rfl, rfl, rfl, rfl, rfl⟩, rfl, rfl, rfl, rfl, rfl⟩, ⟨⟨rfl, rfl, rfl, rfl, rfl⟩, rfl, rfl, rfl, rfl, rfl⟩,
    ⟨rfl, rfl, rfl, rfl, rfl⟩, rfl, rfl, rfl, rfl, rfl⟩

/-- A channel as CHANNEL_OPEN leaves it, and in PRESUMED, with each trigger in and out of the set. -/
theorem judging_triggers (f : Detectors → Detectors) :
    ((judging f).line .one).buf.state.isOpen = true ∧ ((judging f).line .one).chan.mode.mediaClass = .voice
      ∧ ((judging f).line .one).chan.requestedClass = .voice ∧ ((judging f).line .one).chan.agreement = .advertise
      ∧ ((judging f).line .one).chan.params.triggerCng = true ∧ ((judging f).line .one).chan.params.triggerAns = true
      ∧ (((judging f).modChan .one fun c => { c with agreement := .presumed }).line .one).chan.agreement = .presumed
      ∧ (((judging f).modChan .one fun c => { c with requestedClass := .data, mode := .d8 }).line .one).chan.mode.mediaClass = .data :=
  ⟨rfl, rfl, rfl, rfl, rfl, rfl, rfl, rfl⟩

/-- Each clause at the first and the last count of its range; tones at the edges of frequency and level; a disturbing tone 10 dB
above and one 10.1 dB above; steps of 150 and 210 degrees, 20 and 21 blocks after the last reversal. -/
theorem test_witness_DetectorBlocksJudged :
    (owned.line .one).blockDue = false ∧ ((judging id).line .one).blockDue = true
      ∧ (∀ v ∈ ({ now := [], block := [0, 0], before := [] } : Heard).block, v = 0)
      ∧ (∀ st c w k, (AllRun ((judging fun d => { d with dtmf := st }).line .one).det
          ∧ DtmfAlone st ((judging fun d => { d with dtmf := st }).line .one).det)
        ∧ (AllRun ((judging (withCng k c)).line .one).det ∧ CngAlone k c ((judging (withCng k c)).line .one).det)
        ∧ (AllRun ((judging (withAns k w)).line .one).det ∧ AnsAlone k w ((judging (withAns k w)).line .one).det))
      ∧ (KeyTones 0 0 ⟨[⟨6831, -360⟩, ⟨12331, -320⟩], 0⟩ ∧ (1 : Fin 16) = keyDigit 0 0 ∧ (2 : Fin 16) ≠ 1)
      ∧ (∀ k t, ∃ a b, OneSide k t a b ∧ ∃ d e, OneSide k t d e ∧ stepOf k a b = 150 ∧ stepOf k d e = 210)
      ∧ (10620 ≤ (⟨10620, 0⟩ : Tone).freq ∧ (⟨11380, -430⟩ : Tone).freq ≤ 11380 ∧ -430 ≤ (⟨11380, -430⟩ : Tone).level
        ∧ (⟨10620, 0⟩ : Tone).level ≤ 0)
      ∧ (20790 ≤ (⟨20790, 0⟩ : Tone).freq ∧ (⟨21210, -430⟩ : Tone).freq ≤ 21210)
      ∧ ((⟨3000, -330⟩ : Tone).freq < 10620 ∧ (⟨3000, -330⟩ : Tone).level ≤ (⟨11380, -430⟩ : Tone).level + 100
        ∧ ¬ (⟨34000, -329⟩ : Tone).level ≤ (⟨11380, -430⟩ : Tone).level + 100 ∧ 11380 < (⟨34000, -329⟩ : Tone).freq)
      ∧ (¬ 20 < 119 + 1 - 100 ∧ 20 < 120 + 1 - 100) :=
  ⟨rfl, rfl, fun v h => by simpa using h, judging_runs, ⟨keyOne, by decide, by decide⟩, fun k t => by
    cases k
    · exact ⟨⟨t, 150⟩, ⟨[], 0⟩, ⟨rfl, rfl⟩, ⟨t, 210⟩, ⟨[], 0⟩, ⟨rfl, rfl⟩, rfl, rfl⟩
    · exact ⟨⟨[], 0⟩, ⟨t, 150⟩, ⟨rfl, rfl⟩, ⟨[], 0⟩, ⟨t, 210⟩, ⟨rfl, rfl⟩, rfl, rfl⟩,
    by decide, by decide, by decide, by decide⟩

/-- Line 1 with a transmission in this state at this bit. -/
def transmitting (v : TxState) (n : Nat) : State :=
  on fun x => { x with cid := { x.cid with loaded := some withheld, state := v, bitPos := n } }

/-- Both lines; a tone with and without a pair; a transmission's first and last bit of each section, and all sent; a period that
has samples and one that is exhausted; samples that end a millisecond, a block, and neither. -/
theorem test_witness_LineSampleDelivers :
    (∀ l : Line, ∃ rx play : Sample, (l = .one → rx = 7) ∧ (l = .two → rx = 8)
        ∧ play = (match (owned.line l).buf.period.rest with | v :: _ => v | [] => 0))
      ∧ ((owned.line .one).buf.period.rest ≠ [] ∧ ((starting .playing [3] 0 0 0).line .one).buf.period.rest = [])
      ∧ ((owned.tick + 1) % 40 ≠ 0 ∧ ({ owned with tick := 39 } : State).tick + 1 = 40 ∧ (7 + 1) % 40 % 8 = 0)
      ∧ ((owned.line .one).buf.state = .closed ∧ ((call .draining id).line .one).buf.state = .draining
        ∧ ((call .priming id).line .one).buf.state.isOpen = true)
      ∧ (∀ q, ((expiring (some q) (.timed .quiet 10)).line .one).cad.kind = .tone
        ∧ ∃ h, ((expiring (some q) (.timed .quiet 10)).line .one).cad.inHand = some h ∧ h.pair = some q)
      ∧ (∀ h, ((expiring none (.timed .quiet 10)).line .one).cad.inHand = some h → h.pair = none)
      ∧ ((owned.line .one).cad.kind ≠ .tone ∧ (owned.line .one).cid.state = .idle)
      ∧ (∀ n, StillSends ((transmitting .seizure n).line .one).cid withheld
        ∧ SendsBit ((transmitting .seizure n).line .one).cid withheld (decide (n % 2 = 1))
        ∧ StillSends ((transmitting .mark n).line .one).cid withheld ∧ SendsBit ((transmitting .mark n).line .one).cid withheld true)
      ∧ (StillSends ((transmitting .data 0).line .one).cid withheld ∧ SendsBit ((transmitting .data 0).line .one).cid withheld false)
      ∧ (StillSends ((transmitting .data 59).line .one).cid withheld ∧ SendsBit ((transmitting .data 59).line .one).cid withheld true)
      ∧ (((transmitting .data 60).line .one).cid.loaded = some withheld
        ∧ 10 * withheld.message.length ≤ ((transmitting .data 60).line .one).cid.bitPos) :=
  ⟨fun l => by
    cases l
    · exact ⟨7, _, fun _ => rfl, nofun, rfl⟩
    · exact ⟨8, _, nofun, fun _ => rfl, rfl⟩, by decide, by decide, by decide,
    fun _ => ⟨rfl, _, rfl, rfl⟩, fun _ h => by cases h; rfl, by decide,
    fun n => ⟨⟨rfl, .inl rfl⟩, ⟨fun _ => rfl, nofun, nofun⟩, ⟨rfl, .inr (.inl rfl)⟩,
      ⟨nofun, fun _ => rfl, nofun⟩⟩,
    ⟨⟨rfl, .inr (.inr ⟨rfl, by decide⟩)⟩, ⟨nofun, nofun, fun _ => by decide⟩⟩,
    ⟨⟨rfl, .inr (.inr ⟨rfl, by decide⟩)⟩, ⟨nofun, nofun, fun _ => by decide⟩⟩, by decide⟩

end Sys2Proof.Tests
end

section
/-! SUPPORT. The issue of a command where it executes at once, line addressing with its refusals, and for each row that needs
ownership the work it does on one line. -/

namespace Sys2Proof.Machine

open Sys2Proof.Claim

/-! ### A command that executes at once -/

/-- Where nothing waits before it a command executes and is answered (R182, R186). -/
theorem issue_of_free {s : State} {p : Port} (h : Free s p) (c : Command) (act : State → Answer) :
    issue p c act s = replied p c.tag c.code (act s).result (act s).data (act s).state :=
  issue_at_once p c act s h.1 h.2

/-- The answer to a command of port `p` as the state it leaves. -/
def answered (p : Port) (tag code : Byte) (a : Answer) : State := replied p tag code a.result a.data a.state

theorem answered_refuse (p : Port) (tag code : Byte) (r : Result) (s : State) :
    answered p tag code (refuse r s) = replied p tag code r [] s := rfl

theorem answered_accept (p : Port) (tag code : Byte) (s : State) (data : List Byte) :
    answered p tag code (accept s data) = replied p tag code .ok data s := rfl

/-! ### Line fields (R17, R18) -/

theorem lineOf_eq_none {field : Byte} (h1 : field ≠ 1) (h2 : field ≠ 2) : lineOf field = none := by
  rw [lineOf, if_neg h1, if_neg h2]

/-- A line field that names no line is refused, whoever sends it. -/
theorem ownerCommand_badLine (p : Port) {field : Byte} (act : Line → State → Answer) (s : State) (h1 : field ≠ 1)
    (h2 : field ≠ 2) (h3 : field ≠ 3) : ownerCommand p field act s = refuse .badLine s := by
  simp only [ownerCommand, lineOf_eq_none h1 h2, if_neg h3]

/-- ALL from a port that owns neither line. -/
theorem ownerCommand_all_neither (p : Port) (act : Line → State → Answer) (s : State)
    (h1 : (s.line .one).owner ≠ some p) (h2 : (s.line .two).owner ≠ some p) :
    ownerCommand p 3 act s = refuse .notOwner s := by
  simp [ownerCommand, lineOf, owns, h1, h2]

/-- ALL from a port that owns one line does that line's work. -/
theorem ownerCommand_all_one (p : Port) (act : Line → State → Answer) (s : State) (l : Line)
    (hl : (s.line l).owner = some p) (ho : (s.line (otherLine l)).owner ≠ some p) :
    ownerCommand p 3 act s = accept (act l s).state (allEntry l (act l s)) := by
  cases l <;> rw [otherLine] at ho <;> simp [ownerCommand, lineOf, owns, hl, ho]

/-- ALL from a port that owns both lines does Line 1's work and then Line 2's. -/
theorem ownerCommand_all_both (p : Port) (act : Line → State → Answer) (s : State)
    (h1 : (s.line .one).owner = some p) (h2 : (s.line .two).owner = some p) :
    ownerCommand p 3 act s = accept (act .two (act .one s).state).state
      (allEntry .one (act .one s) ++ allEntry .two (act .two (act .one s).state)) := by
  simp [ownerCommand, lineOf, owns, h1, h2]

/-- READ_LINE and READ_COUNTERS refuse a line field that names no line. -/
theorem reportCommand_badLine {field : Byte} (report : Line → State → List Byte) (after : Line → State → State)
    (s : State) (h1 : field ≠ 1) (h2 : field ≠ 2) (h3 : field ≠ 3) : reportCommand field report after s = refuse .badLine s := by
  simp only [reportCommand, lineOf_eq_none h1 h2, if_neg h3]

/-! ### A caller-ID record of the right form (spec 10.3) -/

theorem byteOf_toNat {n : Nat} (h : n < 256) : (byteOf n).toNat = n := by
  simp [byteOf]; omega

/-- A record whose lengths fit its bytes is read back from them. -/
theorem callerFieldsOf_bytes (f : CallerFields) (hn : f.number.length < 256) (hm : f.name.length ≤ 32) :
    callerFieldsOf f.bytes = some f := by
  have hm' : (byteOf f.name.length).toNat = f.name.length := byteOf_toNat (by omega)
  simp [CallerFields.bytes, callerFieldsOf, byteOf_toNat hn, hm', hm]

theorem callerFields_bytes_length (f : CallerFields) : f.bytes.length = 9 + f.number.length + f.name.length := by
  simp [CallerFields.bytes]; omega

/-- A LOAD_CALLER_ID whose record has the right form does the work of an owner's command (R164, R185). -/
theorem doLoadCallerIdBytes_formed (p : Port) (tag line : Byte) (f : CallerFields) (s : State)
    (hl : 12 + f.number.length + f.name.length ≤ 256) (hm : f.name.length ≤ 32) (hc : f.conflicting = false) :
    doLoadCallerIdBytes p (Command.of (codeByte .loadCallerId) tag line f.bytes) s
      = ownerCommand p line (loadOnLine f) s := by
  have hlen := callerFields_bytes_length f
  have hfit : ¬ Config.assemblyKeeps < (Command.of (codeByte .loadCallerId) tag line f.bytes).length := by
    simp only [Command.of, Config.assemblyKeeps]; omega
  have hargs : (Command.of (codeByte .loadCallerId) tag line f.bytes).args = f.bytes := by
    simp only [Command.of, Config.assemblyKeeps]; exact List.take_of_length_le (by omega)
  simp only [doLoadCallerIdBytes, hfit, if_false, hargs, callerFieldsOf_bytes f (by omega) hm, doLoadCallerId, hc]
  rfl

theorem conflicting_eq_false (f : CallerFields) (hn : f.parts.getLsbD 1 = true → f.number = [])
    (hm : f.parts.getLsbD 2 = true → f.name = []) : f.conflicting = false := by
  unfold CallerFields.conflicting
  cases h1 : f.parts.getLsbD 1 <;> cases h2 : f.parts.getLsbD 2 <;> simp_all

/-! ### The rows that need ownership -/

/-- The row does `act` on the lines its field names, as a command that needs ownership, whatever its line field. -/
def DoesOnLine (c : Instr) (p : Port) (tag code : Byte) (act : Line → State → Answer) : Prop :=
  ∀ field s, Free s p → exec (withLine field c) s = .next (answered p tag code (ownerCommand p field act s))

/-- The work on one line of each row that needs ownership. -/
inductive OwnerWork (p : Port) : (Line → State → Answer) → Prop
  | release : OwnerWork p releaseOnLine
  | handOver : OwnerWork p (handOverOnLine p)
  | readEvents : OwnerWork p eventsOnLine
  | lineReset : OwnerWork p resetOnLine
  | setFeed (mode : Byte) : OwnerWork p (feedOnLine mode)
  | setHookTiming (t : HookTiming) : OwnerWork p (timingOnLine t)
  | ringStart (step : Byte) : OwnerWork p (ringStartOnLine step)
  | ringStop : OwnerWork p ringStopOnLine
  | toneStart (step : Byte) : OwnerWork p (toneStartOnLine step)
  | toneStop : OwnerWork p toneStopOnLine
  | loadCallerId (f : CallerFields) : OwnerWork p (loadOnLine f)
  | channelOpen (ability : Byte) (q : ChannelParams) : OwnerWork p (openOnLine ability q)
  | channelClose : OwnerWork p closeOnLine
  | channelDrain : OwnerWork p drainOnLine
  | channelCloseBy (option : Byte) : OwnerWork p (closeByOption option)
  | channelFlush : OwnerWork p flushOnLine
  | setAbility (ability : Byte) : OwnerWork p (abilityOnLine ability)
  | setClass (mediaClass : Byte) : OwnerWork p (classOnLine mediaClass)
  | agreementRestart : OwnerWork p restartOnLine

/-- Each row that needs ownership is its own work on the lines its field names. -/
theorem ownerRow_does {c : Instr} {p : Port} {tag line code : Byte} (h : ownerRow c = some (p, tag, line, code)) :
    withLine line c = c ∧ ∃ act, OwnerWork p act ∧ DoesOnLine c p tag code act := by
  cases c <;> simp only [ownerRow, Option.some.injEq, Prod.mk.injEq, reduceCtorEq] at h
  case loadCallerId q tag' line' parts month day hour minute nr mr number name =>
    split at h
    case isFalse => cases h
    case isTrue hf =>
      simp only [Option.some.injEq, Prod.mk.injEq] at h
      obtain ⟨rfl, rfl, rfl, rfl⟩ := h
      obtain ⟨hlen, hname, hn, hm⟩ := hf
      refine ⟨rfl, _, .loadCallerId ⟨parts, month, day, hour, minute, nr, mr, number, name⟩, fun field s hfree => ?_⟩
      refine congrArg _ ((issue_of_free hfree _ _).trans ?_)
      rw [doLoadCallerIdBytes_formed _ _ _ _ _ hlen hname (conflicting_eq_false _ hn hm)]
      rfl
  all_goals
    obtain ⟨rfl, rfl, rfl, rfl⟩ := h
    refine ⟨rfl, _, ?_, fun _ _ hf => congrArg _ (issue_of_free hf _ _)⟩
    constructor

end Sys2Proof.Machine
end

section
/-! SUPPORT. Work on one line: what stays outside the line and the notice flags, and what the storing of events does to the
line, said once for each operation. -/

namespace Sys2Proof.Claim

open Sys2Proof.Machine

/-! ### The frames of the claims compose -/

theorem PortKept.trans {q r t : PortLink} (h : PortKept q r) (k : PortKept r t) : PortKept q t := by
  obtain ⟨h1, h2, h3, h4, h5, h6, h7, h8, h9, h10⟩ := h
  obtain ⟨k1, k2, k3, k4, k5, k6, k7, k8, k9, k10⟩ := k
  exact ⟨k1.trans h1, k2.trans h2, k3.trans h3, k4.trans h4, k5.trans h5, k6.trans h6, k7.trans h7, k8.trans h8,
    k9.trans h9, k10.trans h10⟩

theorem PortKept.refl (q : PortLink) : PortKept q q := ⟨rfl, rfl, rfl, rfl, rfl, rfl, rfl, rfl, rfl, rfl⟩

theorem OnlyFlags.refl (q : PortLink) : OnlyFlags q q := ⟨.refl q, rfl, rfl, rfl⟩

theorem OnlyFlags.trans {q r t : PortLink} (h : OnlyFlags q r) (k : OnlyFlags r t) : OnlyFlags q t :=
  ⟨h.1.trans k.1, k.2.1.trans h.2.1, k.2.2.1.trans h.2.2.1, k.2.2.2.trans h.2.2.2⟩

theorem ElseSame.refl (l : Line) (s : State) : ElseSame l s s := ⟨rfl, rfl, rfl, rfl, rfl, rfl⟩

theorem ElseSame.trans {l : Line} {s t u : State} (h : ElseSame l s t) (k : ElseSame l t u) : ElseSame l s u := by
  obtain ⟨h1, h2, h3, h4, h5, h6⟩ := h
  obtain ⟨k1, k2, k3, k4, k5, k6⟩ := k
  exact ⟨k1.trans h1, k2.trans h2, k3.trans h3, k4.trans h4, k5.trans h5, k6.trans h6⟩

/-- The notice flags latched before stay latched. -/
def FlagsStay (s u : State) : Prop := ∀ p n, isLatched (s.port p).flags n = true → isLatched (u.port p).flags n = true

theorem FlagsStay.trans {s t u : State} (h : FlagsStay s t) (k : FlagsStay t u) : FlagsStay s u :=
  fun p n hn => k p n (h p n hn)

/-- A notice stays latched through later work, and is the notice for every state with the same owner. -/
theorem Noticed.mono {l : Line} {s s' u v : State} (h : Noticed l s u) (ho : (s'.line l).owner = (s.line l).owner)
    (hs : FlagsStay u v) : Noticed l s' v :=
  ⟨fun p hp => hs _ _ (h.1 p (ho ▸ hp)), fun hn p => hs _ _ (h.2 (ho ▸ hn) p)⟩

end Sys2Proof.Claim

namespace Sys2Proof.Machine

open Sys2Proof.Claim

/-- What is not the same line is the other line. -/
theorem eq_otherLine {l m : Line} (h : m ≠ l) : m = otherLine l := by
  cases l <;> cases m <;> first | rfl | exact absurd rfl h

@[simp] theorem otherLine_ne (l : Line) : otherLine l ≠ l := by cases l <;> nofun

@[simp] theorem otherPort_ne (p : Port) : otherPort p ≠ p := by cases p <;> nofun

/-! ### Latching -/

theorem flagsStay_latch (p : Port) (n : Notice) (s : State) : FlagsStay s (latch p n s) := by
  intro q m hm
  rw [port_latch]
  split
  · simp only [isLatched, BitVec.getLsbD_or, Bool.or_eq_true]
    exact .inl hm
  · exact hm

theorem onlyFlags_latch (p q : Port) (n : Notice) (s : State) : OnlyFlags (s.port q) ((latch p n s).port q) := by
  rw [port_latch]
  split
  · exact ⟨⟨rfl, rfl, rfl, rfl, rfl, rfl, rfl, rfl, rfl, rfl⟩, rfl, rfl, rfl⟩
  · exact .refl _

/-! ### Work on one line -/

/-- From `s` to `u` only line `l` and the ports' notice flags differ, and no flag is cleared. -/
structure LineWork (l : Line) (s u : State) : Prop where
  elsewhere : ElseSame l s u
  ports : ∀ p, OnlyFlags (s.port p) (u.port p)
  stays : FlagsStay s u

theorem LineWork.refl (l : Line) (s : State) : LineWork l s s := ⟨.refl l s, fun _ => .refl _, fun _ _ h => h⟩

theorem LineWork.trans {l : Line} {s t u : State} (h : LineWork l s t) (k : LineWork l t u) : LineWork l s u :=
  ⟨h.elsewhere.trans k.elsewhere, fun p => (h.ports p).trans (k.ports p), h.stays.trans k.stays⟩

theorem LineWork.other {l : Line} {s u : State} (h : LineWork l s u) : u.line (otherLine l) = s.line (otherLine l) :=
  h.elsewhere.1

theorem LineWork.ring {l : Line} {s u : State} (h : LineWork l s u) : u.ring = s.ring := h.elsewhere.2.1

theorem LineWork.steps {l : Line} {s u : State} (h : LineWork l s u) : u.steps = s.steps := h.elsewhere.2.2.1

theorem LineWork.rest {l : Line} {s u : State} (h : LineWork l s u) : RestSame s u := h.elsewhere.2.2

theorem lineWork_modLine (l : Line) (f : LineState → LineState) (s : State) : LineWork l s (s.modLine l f) where
  elsewhere := ⟨line_modLine_other s l _ f (otherLine_ne l), by simp, by simp, by simp, by simp, by simp⟩
  ports p := by rw [port_modLine]; exact .refl _
  stays p n h := by rwa [port_modLine]

theorem lineWork_modSup (l : Line) (f : Supervisor → Supervisor) (s : State) : LineWork l s (s.modSup l f) :=
  lineWork_modLine l _ s

theorem lineWork_modCad (l : Line) (f : CadenceEngine → CadenceEngine) (s : State) : LineWork l s (s.modCad l f) :=
  lineWork_modLine l _ s

theorem lineWork_modCid (l : Line) (f : CallerIdTx → CallerIdTx) (s : State) : LineWork l s (s.modCid l f) :=
  lineWork_modLine l _ s

theorem lineWork_latch (l : Line) (p : Port) (n : Notice) (s : State) : LineWork l s (latch p n s) where
  elsewhere := ⟨by simp, by simp, by simp, by simp, by simp, by simp⟩
  ports q := onlyFlags_latch p q n s
  stays := flagsStay_latch p n s

theorem lineWork_latchOwner (l m : Line) (n : Notice) (s : State) : LineWork l s (latchOwner m n s) := by
  obtain ⟨-, h⟩ | ⟨p, -, h⟩ := latchOwner_cases m n s
  · rw [h]; exact .refl l s
  · rw [h]; exact lineWork_latch l p n s

theorem lineWork_noticeEvent (l : Line) (s : State) : LineWork l s (noticeEvent l s) := by
  unfold noticeEvent
  split
  · exact lineWork_latch l _ _ s
  · exact (lineWork_latch l _ _ s).trans (lineWork_latch l _ _ _)

theorem lineWork_storeEvent (l : Line) (e : EventRecord) (s : State) : LineWork l s (storeEvent l e s) :=
  (lineWork_modLine l _ s).trans (lineWork_noticeEvent l _)

theorem lineWork_storePlain (l : Line) (k : EventKind) (v : Byte) (d : Nat) (s : State) :
    LineWork l s (storePlain l k v d s) := lineWork_storeEvent l _ s

theorem lineWork_emit (l : Line) (k : EventKind) (v : Byte) (d : Nat) (t : Bool) (s : State) :
    LineWork l s (emit l k v d t s) :=
  (lineWork_storeEvent l _ s).trans (lineWork_modSup l (fun v => { v with chatter := false }) _)

/-! ### Stored events (R13 to R15) -/

/-- OVERRUN goes to the newest record, as the claims say it. -/
theorem markOverrun_eq (q : List EventRecord) :
    markOverrun q = q.dropLast ++ (q.getLast?.map fun r => { r with overrun := true }).toList := by
  rcases List.eq_nil_or_concat q with rfl | ⟨es, e, rfl⟩
  · rfl
  · simp

theorem appendEvent_eq_recorded (q : List EventRecord) (e : EventRecord) : appendEvent q e = recorded q e := by
  simp only [appendEvent, recorded, markOverrun_eq, Config.eventQueueSize]

theorem durationOf_elapsed {n : Nat} (h : n < 65536) : durationOf n = BitVec.ofNat 16 n := by
  simp only [durationOf]; congr 1; omega

@[simp] theorem durationOf_zero : durationOf 0 = 0 := rfl

@[simp] theorem line_storeEvent_same (l : Line) (e : EventRecord) (s : State) :
    (storeEvent l e s).line l = { s.line l with events := recorded (s.line l).events e } := by
  rw [line_storeEvent, if_pos rfl, appendEvent_eq_recorded]

@[simp] theorem line_storePlain_same (l : Line) (k : EventKind) (v : Byte) (d : Nat) (s : State) :
    (storePlain l k v d s).line l = { s.line l with
      events := recorded (s.line l).events (eventNow (s.line l) k v (durationOf d) false false) } :=
  line_storeEvent_same l _ s

@[simp] theorem line_emit_same (l : Line) (k : EventKind) (v : Byte) (d : Nat) (t : Bool) (s : State) :
    (emit l k v d t s).line l = { s.line l with
      events := recorded (s.line l).events (eventNow (s.line l) k v (durationOf d) (s.line l).sup.chatter t)
      sup := { (s.line l).sup with chatter := false } } := by
  simp only [emit, line_modSup_same, line_storeEvent_same]
  rfl

/-! ### The notice of an event (R14, R15) -/

theorem noticed_noticeEvent (l : Line) (s : State) : Noticed l s (noticeEvent l s) := by
  unfold noticeEvent
  refine ⟨fun p hp => ?_, fun hn p => ?_⟩
  · simp only [hp, isLatched_latch]
  · simp only [hn]
    cases p
    · exact flagsStay_latch _ _ _ _ _ (isLatched_latch _ _ _)
    · exact isLatched_latch _ _ _

theorem noticed_storeEvent (l : Line) (e : EventRecord) (s : State) : Noticed l s (storeEvent l e s) :=
  (noticed_noticeEvent l _).mono (by simp) fun _ _ h => h

theorem noticed_storePlain (l : Line) (k : EventKind) (v : Byte) (d : Nat) (s : State) :
    Noticed l s (storePlain l k v d s) := noticed_storeEvent l _ s

theorem noticed_emit (l : Line) (k : EventKind) (v : Byte) (d : Nat) (t : Bool) (s : State) :
    Noticed l s (emit l k v d t s) :=
  (noticed_storeEvent l _ s).mono rfl (lineWork_modSup l (fun v => { v with chatter := false }) _).stays

/-! ### Detectors that leave nothing at a stop (R126) -/

/-- Where the stopping detectors leave nothing, only the detectors follow. -/
theorem followDetectors_of_silent {l : Line} {s : State} (h : stopFindings (s.line l) = []) :
    followDetectors l s = s.modLine l fun x => { x with det := followedDetectors s.tick x } := by
  simp only [followDetectors, h, applyFindings, List.foldl_nil]

/-- Answer detectors at rest with a CLOSED channel leave nothing (R126). -/
theorem tone_findings_of_rest {x : LineState} (h : TonesRest x) :
    (if toneRuns x then [] else answerStopped .line x.det.ansLine ++ answerStopped .network x.det.ansNet) = [] := by
  by_cases hc : x.buf.state = .closed
  · obtain ⟨-, -, -, -, -, -, hl, hn⟩ := h hc
    simp [hl, hn, answerStopped]
  · simp [toneRuns, hc]

/-- A quiet line leaves nothing, whatever its state becomes. -/
theorem stopFindings_of_quiet {x : LineState} (h : Quiet x) : stopFindings x = [] := by
  obtain ⟨hd, ht⟩ := h
  rw [stopFindings, tone_findings_of_rest ht, List.append_nil]
  cases hs : x.det.dtmf <;> simp_all [dtmfStopped, digitActive]

/-- A line that is OFF_HOOK leaves nothing: its DTMF detector runs. -/
theorem stopFindings_of_offHook {x : LineState} (h : TonesRest x) (ho : x.sup.state = .offHook) : stopFindings x = [] := by
  rw [stopFindings, tone_findings_of_rest h]
  simp [dtmfRuns, ho]

/-! ### Composed updates of a supervisor -/

theorem modSup_comp (s : State) (l : Line) (f g : Supervisor → Supervisor) :
    (s.modSup l f).modSup l g = s.modSup l fun v => g (f v) := modLine_comp s l _ _

/-- Updates of a supervisor are the same where they give the line's own supervisor the same value. -/
theorem modSup_congr {s : State} {l : Line} {f g : Supervisor → Supervisor} (h : f (s.line l).sup = g (s.line l).sup) :
    s.modSup l f = s.modSup l g := by
  cases l <;> simp only [State.modSup, State.modLine] <;> simp only [State.line] at h <;> rw [h]

theorem modLine_congr {s : State} {l : Line} {f g : LineState → LineState} (h : f (s.line l) = g (s.line l)) :
    s.modLine l f = s.modLine l g := by
  cases l <;> simp only [State.modLine] <;> simp only [State.line] at h <;> rw [h]

end Sys2Proof.Machine
end

section
/-! SUPPORT. The bounds of a line's estimates and queues through the playout: arrivals, the switch of a splice and the
frame-start (R60 to R73, R81 to R93). -/

namespace Sys2Proof.Machine

open Sys2Proof.Claim Sys2Proof.Safety

/-! ### Arithmetic of the estimates (R82, R86, R93) -/

/-- A step of `n` toward `d` by a floored fraction stays between them. -/
theorem add_ediv_between {v d : Int} {n : Nat} (hn : 0 < n) (lo hi : Int)
    (hv : lo ≤ v ∧ v ≤ hi) (hd : lo ≤ d ∧ d ≤ hi) :
    lo ≤ v + (d - v) / n ∧ v + (d - v) / n ≤ hi := by
  have hn' : (0 : Int) < n := by exact_mod_cast hn
  by_cases h : v ≤ d
  · have h0 : 0 ≤ (d - v) / n := Int.ediv_nonneg (by omega) (by omega)
    have h1 : (d - v) / n ≤ d - v := Int.ediv_le_self _ (by omega)
    omega
  · have h0 : (d - v) / n ≤ 0 := by
      have := Int.ediv_le_ediv hn' (show d - v ≤ 0 by omega)
      simpa using this
    have h1 : d - v ≤ (d - v) / n := by
      rw [Int.le_ediv_iff_mul_le hn']
      nlinarith
    omega

theorem smoothUpdate_bounded {v : Int} {d k : Nat} (hv : 0 ≤ v ∧ v ≤ Config.depthTop) (hd : d ≤ 5120) :
    0 ≤ smoothUpdate v d k ∧ smoothUpdate v d k ≤ Config.depthTop := by
  have h := add_ediv_between (v := v) (d := 16 * (d : Int)) (n := 2 ^ k) (by positivity) 0 Config.depthTop hv
    (by simp only [Config.depthTop]; omega)
  simpa [smoothUpdate] using h

theorem jitterUpdate_bounded {j d : Int} (hj : 0 ≤ j ∧ j ≤ 65536) : 0 ≤ jitterUpdate j d ∧ jitterUpdate j d ≤ 65536 := by
  have h := add_ediv_between (v := j) (d := 16 * (min d.natAbs Config.jitterClamp : Nat)) (n := 16) (by decide) 0 65536 hj
    (by simp only [Config.jitterClamp]; omega)
  simpa [jitterUpdate] using h

theorem clampSmoothed_bounded (v : Int) : 0 ≤ clampSmoothed v ∧ clampSmoothed v ≤ Config.depthTop := by
  simp only [clampSmoothed, Config.depthTop]; omega

theorem contiguous_le (slots : Slots) (n : Nat) : ∀ q, contiguous slots q n ≤ n := by
  induction n with
  | zero => intro q; exact Nat.le_refl _
  | succ n ih =>
    intro q
    unfold contiguous
    split
    · exact Nat.succ_le_succ (ih _)
    · exact Nat.zero_le _

/-- D is at most a whole window's samples. -/
theorem depthOf_le (b : PlayoutBuffer) : depthOf b ≤ 5120 := by
  unfold depthOf
  split
  · have := contiguous_le b.slots 64 ‹_›; omega
  · omega

/-! ### Steps of the playout -/

/-- A step of the playout: only the channel, its buffer, estimates and counters may differ; the splice queue and the
estimates keep their bounds, and the buffer does not become CLOSED or leave that state. -/
structure PlayoutStep (x y : LineState) : Prop where
  only : y = { x with chan := y.chan, buf := y.buf, depth := y.depth, ctr := y.ctr }
  splice : SpliceBounded x → SpliceBounded y
  depth : DepthBounded x → DepthBounded y
  closed : y.buf.state = .closed ↔ x.buf.state = .closed

theorem PlayoutStep.refl (x : LineState) : PlayoutStep x x := ⟨rfl, id, id, .rfl⟩

theorem PlayoutStep.trans {x y z : LineState} (h : PlayoutStep x y) (k : PlayoutStep y z) : PlayoutStep x z where
  only := by rw [k.only, h.only]
  splice := k.splice ∘ h.splice
  depth := k.depth ∘ h.depth
  closed := k.closed.trans h.closed

/-- A change of the buffer that keeps the splice, and opens or closes nothing. -/
theorem playoutStep_buf (x : LineState) (b : PlayoutBuffer) (hp : b.splicePending = x.buf.splicePending)
    (hq : b.spliceQueue = x.buf.spliceQueue) (hc : b.state = .closed ↔ x.buf.state = .closed) :
    PlayoutStep x { x with buf := b } where
  only := rfl
  splice h := by simpa only [SpliceBounded, hp, hq] using h
  depth h := h
  closed := hc

theorem playoutStep_ctr (x : LineState) (k : ChannelCounters) : PlayoutStep x { x with ctr := k } := ⟨rfl, id, id, .rfl⟩

theorem playoutStep_depth (x : LineState) (t : DepthTracker) (h : DepthBounded x → DepthBounded { x with depth := t }) :
    PlayoutStep x { x with depth := t } := ⟨rfl, id, h, .rfl⟩

/-! ### Arrivals (R54 to R58, R81) -/

theorem stored_bounded (x : LineState) (t : DepthTracker) (a ts : DWord) (h : DepthBounded { x with depth := t }) :
    DepthBounded { x with depth := t.stored a ts } := by
  obtain ⟨h1, h2, h3, h4⟩ := h
  refine ⟨h1, h2, ?_⟩
  simp only [DepthTracker.stored]
  split
  · exact jitterUpdate_bounded ⟨h3, h4⟩
  · exact ⟨h3, h4⟩

/-- A stored frame, from a buffer with the same splice and estimates within their bounds. -/
theorem playoutStep_storeFrame (x : LineState) (r : FrameRecord) (b : PlayoutBuffer) (t : DepthTracker) (k : ChannelCounters)
    (hp : b.splicePending = x.buf.splicePending) (hq : b.spliceQueue = x.buf.spliceQueue)
    (hc : b.state = .closed ↔ x.buf.state = .closed) (ht : DepthBounded x → DepthBounded { x with depth := t }) :
    PlayoutStep x (storeFrame x r b t k) where
  only := rfl
  splice h := by simpa only [SpliceBounded, storeFrame, hp, hq] using h
  depth h := stored_bounded x t _ _ (ht h)
  closed := hc

theorem playoutStep_arrive (x : LineState) (r : FrameRecord) (ho : x.buf.state ≠ .closed) :
    PlayoutStep x (arrive x r) := by
  unfold arrive
  cases classify x.buf r.sequence with
  | stored => exact playoutStep_storeFrame x r _ _ _ rfl rfl .rfl id
  | duplicate => exact playoutStep_ctr x _
  | early => exact playoutStep_storeFrame x r _ _ _ rfl rfl .rfl id
  | late => exact playoutStep_ctr x _
  | ahead => exact playoutStep_storeFrame x r _ _ _ rfl rfl .rfl id
  | restart => exact playoutStep_storeFrame x r _ _ _ rfl rfl (by simp [ho]) id

theorem playoutStep_arriveAll (rs : List FrameRecord) :
    ∀ x : LineState, x.buf.state ≠ .closed → PlayoutStep x (arriveAll x rs).1 := by
  induction rs with
  | nil => exact fun x _ => .refl x
  | cons r rs ih =>
    intro x ho
    have ha := playoutStep_arrive x r ho
    exact ha.trans (ih _ (mt ha.closed.mp ho))

/-- A frame that joins the splice queue of a pending splice (R70, R71). -/
theorem playoutStep_spliceAppend (x : LineState) (r : FrameRecord) (hp : x.buf.splicePending = true) :
    PlayoutStep x (spliceAppend x r) := by
  unfold spliceAppend
  split
  · exact ⟨rfl, fun _ => ⟨by simp only [List.length_append, List.length_singleton]; omega, by simp [hp]⟩, id, .rfl⟩
  · refine ⟨rfl, fun ⟨hl, _⟩ => ⟨?_, by simp [hp]⟩, id, .rfl⟩
    simp only [List.length_append, List.length_drop, List.length_singleton, Config.spliceQueueSize] at hl ⊢
    omega

@[simp] theorem arrive_spliceQueue (x : LineState) (r : FrameRecord) :
    (arrive x r).buf.spliceQueue = x.buf.spliceQueue := by
  unfold arrive; cases classify x.buf r.sequence <;> simp only [applyArrival, storeFrame]

theorem arriveAll_spliceQueue (rs : List FrameRecord) :
    ∀ x : LineState, (arriveAll x rs).1.buf.spliceQueue = x.buf.spliceQueue := by
  induction rs with
  | nil => exact fun _ => rfl
  | cons r rs ih => exact fun x => by simp only [arriveAll, ih, arrive_spliceQueue]

/-- A splice ends with its queue empty, the next transit having none before it (R73 step 3). -/
theorem PlayoutStep.endSplice {x y : LineState} (h : PlayoutStep x y) (hq : y.buf.spliceQueue = []) :
    PlayoutStep x { y with buf := { y.buf with splicePending := false }, depth := { y.depth with lastTransit := none } } where
  only := by rw [h.only]
  splice hx := ⟨(h.splice hx).1, fun _ => hq⟩
  depth := h.depth
  closed := h.closed

theorem playoutStep_switchStream (x : LineState) (ho : x.buf.state ≠ .closed) : PlayoutStep x (switchStream x).1 := by
  have hclear : PlayoutStep x { x with buf := { x.buf with
      slots := Slots.empty, playoutPoint := none, state := .priming, missing := 0, spliceQueue := [] } } :=
    ⟨rfl, fun _ => ⟨Nat.zero_le _, fun _ => rfl⟩, id, by simp [ho]⟩
  exact (hclear.trans (playoutStep_arriveAll x.buf.spliceQueue _ (mt hclear.closed.mp ho))).endSplice
    (arriveAll_spliceQueue _ _)

/-! ### The frame-start (R60 to R66) -/

theorem playoutStep_refreshTarget (x : LineState) : PlayoutStep x (refreshTarget x) := playoutStep_depth x _ id

theorem playoutStep_refreshSmoothed (x : LineState) {d : Nat} (hd : d ≤ 5120) : PlayoutStep x (refreshSmoothed x d) :=
  playoutStep_depth x _ fun ⟨h1, h2, h3⟩ =>
    have hs := smoothUpdate_bounded ⟨h1, h2⟩ hd
    ⟨hs.1, hs.2, h3⟩

theorem afterTrim_bounded (x : LineState) (c : MediaClass) (t : Trim) (h : DepthBounded x) :
    DepthBounded { x with depth := x.depth.afterTrim c t } := by
  obtain ⟨h1, h2, h3⟩ := h
  cases t with
  | none => exact ⟨h1, h2, h3⟩
  | surplus => exact ⟨(clampSmoothed_bounded _).1, (clampSmoothed_bounded _).2, h3⟩
  | deficit => exact ⟨(clampSmoothed_bounded _).1, (clampSmoothed_bounded _).2, h3⟩

theorem playoutStep_playFrame (x : LineState) (r : FrameRecord) (ho : x.buf.state ≠ .closed) :
    PlayoutStep x (playFrame x r) where
  only := rfl
  splice h := h
  depth h := afterTrim_bounded x x.mediaClass (trimDecision x.mediaClass x.depth) h
  closed := by simp [playFrame, ho]

theorem playoutStep_playSilence (x : LineState) : PlayoutStep x (playSilence x) := playoutStep_buf x _ rfl rfl .rfl

/-- Priming that reaches its target starts S at the depth and plays (R62 step 3). -/
theorem playoutStep_primed (x : LineState) (r : FrameRecord) {d : Nat} (f : Nat) (hd : d ≤ 5120)
    (ho : x.buf.state ≠ .closed) :
    PlayoutStep x (playFrame { x with depth := { x.depth with smoothed := 16 * (d : Int), since := f } } r) := by
  have hs : PlayoutStep x { x with depth := { x.depth with smoothed := 16 * (d : Int), since := f } } :=
    playoutStep_depth x _ fun ⟨_, _, h3⟩ => ⟨by dsimp only; omega, by simp only [Config.depthTop]; omega, h3⟩
  exact hs.trans (playoutStep_playFrame _ r ho)

theorem playoutStep_primingCheck (x : LineState) (ho : x.buf.state ≠ .closed) : PlayoutStep x (primingCheck x) := by
  refine (playoutStep_refreshTarget x).trans ?_
  unfold primingCheck
  dsimp only
  split
  · split
    · exact playoutStep_primed (refreshTarget x) _ _ (depthOf_le _) ho
    · exact playoutStep_playSilence _
  · exact playoutStep_playSilence _

theorem playoutStep_passOver (x : LineState) (ho : x.buf.state ≠ .closed) : PlayoutStep x (passOver x).1 := by
  refine (playoutStep_refreshTarget x).trans ((playoutStep_refreshSmoothed _ (Nat.zero_le _)).trans ?_)
  unfold passOver
  dsimp only
  split <;> exact ⟨rfl, id, id, by simp [refreshSmoothed, refreshTarget, ho]⟩

/-- A switch, and the PRIMING check after it. -/
theorem playoutStep_switchThenCheck (x : LineState) (ho : x.buf.state ≠ .closed) :
    PlayoutStep x (primingCheck (switchStream x).1) :=
  have h := playoutStep_switchStream x ho
  h.trans (playoutStep_primingCheck _ (mt h.closed.mp ho))

theorem playoutStep_playingStart (x : LineState) (ho : x.buf.state ≠ .closed) : PlayoutStep x (playingStart x).1 := by
  unfold playingStart
  split
  · exact (playoutStep_refreshTarget x).trans
      ((playoutStep_refreshSmoothed _ (depthOf_le _)).trans (playoutStep_playFrame _ _ ho))
  · split
    · exact playoutStep_switchThenCheck x ho
    · exact playoutStep_passOver x ho

theorem playoutStep_primingStart (x : LineState) (ho : x.buf.state ≠ .closed) : PlayoutStep x (primingStart x).1 := by
  unfold primingStart
  split
  · exact playoutStep_switchThenCheck x ho
  · exact playoutStep_primingCheck x ho

theorem playoutStep_actOnReprime (x : LineState) : PlayoutStep x (actOnReprime x) := by
  unfold actOnReprime
  split
  · dsimp only
    split <;> exact ⟨rfl, id, id, by simp [*]⟩
  · exact .refl x

/-- A frame-start is a step of the playout, or the end of a drain (R66): the buffer becomes CLOSED and empty. -/
theorem startPeriod_cases (x : LineState) :
    PlayoutStep x (startPeriod x).1
      ∨ (x.buf.state ≠ .closed ∧ ∃ y, PlayoutStep x y
        ∧ (startPeriod x).1 = { y with buf := y.buf.closedWith Period.silent }) := by
  unfold startPeriod
  split
  · exact .inl (playoutStep_playSilence x)
  next ho =>
    have ha := playoutStep_actOnReprime x
    have ho' := mt ha.closed.mp ho
    dsimp only
    split
    · exact .inl (ha.trans (playoutStep_primingStart _ ho'))
    · exact .inl (ha.trans (playoutStep_playingStart _ ho'))
    · exact .inl (ha.trans (playoutStep_playingStart _ ho'))
    · unfold drainingStart
      split
      · exact .inl (ha.trans (playoutStep_buf _ _ rfl rfl .rfl))
      · exact .inr ⟨ho, _, ha, rfl⟩
    · exact .inl (ha.trans (playoutStep_playSilence _))

end Sys2Proof.Machine
end

section
/-! SUPPORT. Calm work: what a unit does that keeps every line's owner and generation, every FIFO and every count of replies,
and the bounds of every line. Said once for each operation of the units. -/

namespace Sys2Proof.Machine

open Sys2Proof.Claim Sys2Proof.Safety

/-! ### Calm work -/

/-- The bounds of what a line stores: events, splice queue, estimates. -/
def StoresBounded (x : LineState) : Prop := EventsBounded x ∧ SpliceBounded x ∧ DepthBounded x

/-- A line's detectors run or rest with its channel. -/
def DetectorsFit (x : LineState) : Prop := TonesRest x ∧ FiveRun x

theorem lineBounded_iff (x : LineState) : LineBounded x ↔ StoresBounded x ∧ DetectorsFit x := by
  simp only [LineBounded, StoresBounded, DetectorsFit, and_assoc]

/-- A line keeps its owner, its generation and the bounds of its stores. -/
structure LineCalm (x y : LineState) : Prop where
  owner : y.owner = x.owner
  generation : y.generation = x.generation
  stores : StoresBounded x → StoresBounded y

theorem LineCalm.refl (x : LineState) : LineCalm x x := ⟨rfl, rfl, id⟩

theorem LineCalm.trans {x y z : LineState} (h : LineCalm x y) (k : LineCalm y z) : LineCalm x z :=
  ⟨k.owner.trans h.owner, k.generation.trans h.generation, k.stores ∘ h.stores⟩

/-- A port keeps its waiting commands and its number of replies. -/
def PortServes (q r : PortLink) : Prop := r.fifo = q.fifo ∧ replyCount r = replyCount q

theorem PortServes.refl (q : PortLink) : PortServes q q := ⟨rfl, rfl⟩

theorem PortServes.trans {q r t : PortLink} (h : PortServes q r) (k : PortServes r t) : PortServes q t :=
  ⟨k.1.trans h.1, k.2.trans h.2⟩

/-- From `s` to `u` the lines keep owner, generation and bounds, and the ports their commands and replies. -/
structure Calm (s u : State) : Prop where
  lines : ∀ l, LineCalm (s.line l) (u.line l)
  fits : ∀ l, DetectorsFit (s.line l) → DetectorsFit (u.line l)
  ports : ∀ p, PortServes (s.port p) (u.port p)

theorem Calm.refl (s : State) : Calm s s := ⟨fun _ => .refl _, fun _ => id, fun _ => .refl _⟩

theorem Calm.trans {s t u : State} (h : Calm s t) (k : Calm t u) : Calm s u :=
  ⟨fun l => (h.lines l).trans (k.lines l), fun l => k.fits l ∘ h.fits l, fun p => (h.ports p).trans (k.ports p)⟩

/-- A choice between two works is calm where both are. -/
theorem calm_ite {c : Prop} [Decidable c] {s u v : State} (h : Calm s u) (k : Calm s v) : Calm s (if c then u else v) := by
  split
  · exact h
  · exact k

theorem Calm.bounded {s u : State} (h : Calm s u) {l : Line} (hs : LineBounded (s.line l)) : LineBounded (u.line l) := by
  rw [lineBounded_iff] at hs ⊢
  exact ⟨(h.lines l).stores hs.1, h.fits l hs.2⟩

/-! ### The shared operations -/

theorem calm_modLine {s : State} {l : Line} {f : LineState → LineState} (h : LineCalm (s.line l) (f (s.line l)))
    (hf : DetectorsFit (s.line l) → DetectorsFit (f (s.line l))) : Calm s (s.modLine l f) where
  lines m := by
    rw [line_modLine]
    split
    next hm => subst hm; exact h
    next => exact .refl _
  fits m := by
    rw [line_modLine]
    split
    next hm => subst hm; exact hf
    next => exact id
  ports p := by rw [port_modLine]; exact .refl _

theorem calm_modSup (s : State) (l : Line) (f : Supervisor → Supervisor) : Calm s (s.modSup l f) :=
  calm_modLine ⟨rfl, rfl, id⟩ id

theorem calm_modCad (s : State) (l : Line) (f : CadenceEngine → CadenceEngine) : Calm s (s.modCad l f) :=
  calm_modLine ⟨rfl, rfl, id⟩ id

theorem calm_modCid (s : State) (l : Line) (f : CallerIdTx → CallerIdTx) : Calm s (s.modCid l f) :=
  calm_modLine ⟨rfl, rfl, id⟩ id

theorem calm_modChan (s : State) (l : Line) (f : MediaChannel → MediaChannel) : Calm s (s.modChan l f) :=
  calm_modLine ⟨rfl, rfl, id⟩ id

theorem calm_modCtr (s : State) (l : Line) (f : ChannelCounters → ChannelCounters) : Calm s (s.modCtr l f) :=
  calm_modLine ⟨rfl, rfl, id⟩ id

theorem calm_modRing (s : State) (f : RingArbiter → RingArbiter) : Calm s (s.modRing f) where
  lines l := by rw [line_modRing]; exact .refl _
  fits l := by rw [line_modRing]; exact id
  ports p := by rw [port_modRing]; exact .refl _

theorem calm_modPort {s : State} {p : Port} {f : PortLink → PortLink} (h : PortServes (s.port p) (f (s.port p))) :
    Calm s (s.modPort p f) where
  lines l := by rw [line_modPort]; exact .refl _
  fits l := by rw [line_modPort]; exact id
  ports q := by
    rw [port_modPort]
    split
    next hq => subst hq; exact h
    next => exact .refl _

theorem calm_latch (p : Port) (n : Notice) (s : State) : Calm s (latch p n s) := calm_modPort (.refl _)

theorem calm_latchOwner (l : Line) (n : Notice) (s : State) : Calm s (latchOwner l n s) := by
  obtain ⟨-, h⟩ | ⟨p, -, h⟩ := latchOwner_cases l n s
  · rw [h]; exact .refl s
  · rw [h]; exact calm_latch p n s

theorem calm_noticeEvent (l : Line) (s : State) : Calm s (noticeEvent l s) := by
  unfold noticeEvent
  split
  · exact calm_latch _ _ s
  · exact (calm_latch _ _ s).trans (calm_latch _ _ _)

theorem calm_storeEvent (l : Line) (e : EventRecord) (s : State) : Calm s (storeEvent l e s) := by
  have h : Calm s (s.modLine l fun x => { x with events := appendEvent x.events e }) :=
    calm_modLine ⟨rfl, rfl, fun h => ⟨appendEvent_length _ e h.1, h.2⟩⟩ id
  exact h.trans (calm_noticeEvent l _)

theorem calm_storePlain (l : Line) (k : EventKind) (v : Byte) (d : Nat) (s : State) : Calm s (storePlain l k v d s) :=
  calm_storeEvent l _ s

theorem calm_emit (l : Line) (k : EventKind) (v : Byte) (d : Nat) (t : Bool) (s : State) : Calm s (emit l k v d t s) :=
  (calm_storeEvent l _ s).trans (calm_modSup _ l fun v => { v with chatter := false })

/-! ### Ringing (R149 to R162) -/

theorem calm_grantHead (s : State) : Calm s (grantHead s) := by
  unfold grantHead
  split
  · exact (calm_modRing s _).trans (calm_modLine ⟨rfl, rfl, id⟩ id)
  · exact .refl s

theorem calm_ringRequest (l : Line) (s : State) : Calm s (ringRequest l s) := by
  unfold ringRequest
  dsimp only
  have h := calm_modRing s fun a => { a with waitList := a.waitList ++ [l] }
  split
  · exact h.trans (calm_modRing _ _)
  · exact h
  · exact h.trans ((calm_modRing _ _).trans (calm_grantHead _))
  · exact h

theorem calm_judgeFeeds (s : State) : Calm s (judgeFeeds s) := calm_modRing s _

theorem calm_judgeKeepWarm (s : State) : Calm s (judgeKeepWarm s) := calm_ite (calm_judgeFeeds s) (.refl s)

theorem calm_judgeLastEnd (s : State) : Calm s (judgeLastEnd s) :=
  calm_ite ((calm_judgeFeeds s).trans (calm_modRing _ _)) (.refl s)

theorem calm_feedChanged (s : State) : Calm s (feedChanged s) :=
  calm_ite (calm_judgeFeeds s) (calm_ite (calm_modRing s _) (.refl s))

theorem calm_endRinging (g : Bool) (l : Line) (s : State) : Calm s (endRinging g l s) := by
  unfold endRinging
  refine calm_ite ?_ (calm_modRing s _)
  exact calm_ite ((calm_modRing s _).trans (calm_grantHead _)) (calm_modRing s _)

theorem calm_stopCallerId (l : Line) (s : State) : Calm s (stopCallerId l s) :=
  calm_ite ((calm_modCid s l _).trans (calm_storePlain l _ _ _ _)) (calm_modCid s l _)

/-! ### Cadences (R141 to R147) -/

theorem calm_endCadence (l : Line) (s : State) : Calm s (endCadence l s) :=
  calm_ite ((calm_modCad s l endedEngine).trans (calm_judgeLastEnd _)) (calm_modCad s l endedEngine)

theorem calm_stopRing (l : Line) (s : State) : Calm s (stopRing l s) :=
  calm_ite ((calm_endRinging true l s).trans ((calm_stopCallerId l _).trans (calm_endCadence l _))) (.refl s)

theorem calm_stopTone (l : Line) (s : State) : Calm s (stopTone l s) := calm_ite (calm_endCadence l s) (.refl s)

theorem calm_beginTimed (l : Line) (i : Fin 64) (e : CadenceStep) (s : State) : Calm s (beginTimed l i e s) :=
  calm_modLine ⟨rfl, rfl, id⟩ id

theorem calm_beginTone (l : Line) (i : Fin 64) (e : CadenceStep) (b : Option TonePair) (s : State) :
    Calm s (beginTone l i e b s) := by
  unfold beginTone; exact calm_modLine ⟨rfl, rfl, id⟩ id

theorem calm_beginRing (l : Line) (i : Fin 64) (e : CadenceStep) (s : State) : Calm s (beginRing l i e s) :=
  (calm_modCad s l _).trans (calm_ringRequest l _)

theorem calm_beginCid (l : Line) (i : Fin 64) (e : CadenceStep) (s : State) : Calm s (beginCid l i e s) :=
  (calm_modCad s l _).trans (calm_modCid _ l _)

theorem calm_beginStep (l : Line) (b : Option TonePair) (n : Nat) :
    ∀ (i : Fin 64) (s : State), Calm s (beginStep l b n i s) := by
  induction n with
  | zero => exact fun i s => calm_endCadence l s
  | succ n ih =>
    intro i s
    unfold beginStep
    dsimp only
    split
    · exact calm_beginTimed l i _ s
    · exact calm_beginTone l i _ b s
    · exact calm_beginRing l i _ s
    · exact calm_beginCid l i _ s
    · exact calm_endCadence l s
    · refine (calm_modCad s l _).trans (calm_ite (calm_endCadence l _) ?_)
      split
      · exact ih _ _
      · exact calm_endCadence l _

theorem calm_advanceCadence (l : Line) (s : State) : Calm s (advanceCadence l s) := by
  unfold advanceCadence
  dsimp only
  split
  · exact (calm_modCad s l _).trans (calm_beginStep l _ _ _ _)
  · exact calm_endCadence l s

theorem calm_startCadence (k : CadenceKind) (l : Line) (i : Fin 64) (s : State) : Calm s (startCadence k l i s) := by
  unfold startCadence
  exact (calm_modCad s l _).trans (.trans (calm_ite (calm_modRing _ _) (.refl _)) (calm_beginStep l _ _ i _))

theorem calm_completeTransmission (l : Line) (s : State) : Calm s (completeTransmission l s) := by
  refine ((calm_modCid s l dropTransmission).trans (calm_storePlain l .cidDone 0 0 _)).trans ?_
  exact calm_ite (calm_advanceCadence l _) (.refl _)

/-! ### Mode agreement (R36 to R49) -/

theorem calm_setAgreement (l : Line) (a : Agreement) (s : State) : Calm s (setAgreement l a s) :=
  calm_ite (.refl s) ((calm_modChan s l _).trans (calm_latchOwner l _ _))

theorem calm_changeMode (l : Line) (m : Mode) (s : State) : Calm s (changeMode l m s) :=
  calm_ite (.refl s) ((calm_modChan s l _).trans (calm_latchOwner l _ _))

theorem calm_restartAgreement (l : Line) (s : State) : Calm s (restartAgreement l s) :=
  (calm_setAgreement l .advertise s).trans (calm_modLine ⟨rfl, rfl, id⟩ id)

theorem calm_enterPresumed (l : Line) (f : MediaChannel → MediaChannel) (s : State) : Calm s (enterPresumed l f s) :=
  (calm_setAgreement l .presumed s).trans ((calm_changeMode l .v8 _).trans (calm_modChan _ l _))

theorem calm_wordInAdvertise (l : Line) (w : ModeWord) (s : State) : Calm s (wordInAdvertise l w s) :=
  (calm_modChan s l _).trans (calm_setAgreement l _ _)

theorem calm_wordInMatched (l : Line) (w : ModeWord) (s : State) : Calm s (wordInMatched l w s) := by
  refine calm_ite (calm_ite ?_ (.refl s)) (calm_modChan s l _)
  exact (calm_setAgreement l .confirmed s).trans ((calm_changeMode l _ _).trans (calm_modChan _ l _))

theorem calm_receiveWord (l : Line) (w : ModeWord) (s : State) : Calm s (receiveWord l w s) := by
  have hrestart := (calm_restartAgreement l s).trans (calm_wordInAdvertise l w _)
  unfold receiveWord
  split
  · exact calm_wordInAdvertise l w s
  · exact calm_wordInMatched l w s
  · exact calm_ite (.refl s) hrestart
  · exact hrestart

theorem calm_receiveBare (l : Line) (s : State) : Calm s (receiveBare l s) := by
  unfold receiveBare
  split
  · exact (calm_modChan s l _).trans (calm_ite (.refl _) (calm_enterPresumed l _ _))
  · exact .refl s

theorem calm_examineFrame (l : Line) (w : Option ModeWord) (s : State) : Calm s (examineFrame l w s) := by
  cases w with
  | some w => exact calm_receiveWord l w s
  | none => exact calm_receiveBare l s

theorem calm_upspeed (l : Line) (t : UpspeedTrigger) (s : State) : Calm s (upspeed l t s) := by
  refine calm_ite ?_ (.refl s)
  exact (calm_modChan s l fun c => { c with requestedClass := .data }).trans
    (calm_ite (calm_changeMode l .d8 _) (calm_restartAgreement l _))

/-! ### Detectors (R116 to R127) -/

theorem calm_applyFinding (l : Line) (s : State) (f : Finding) : Calm s (applyFinding l s f) := by
  unfold applyFinding
  cases f.trigger with
  | some k => exact (calm_upspeed l k s).trans (calm_storePlain l _ _ _ _)
  | none => exact calm_storePlain l _ _ _ s

theorem calm_applyFindings (l : Line) (fs : List Finding) : ∀ s : State, Calm s (applyFindings l fs s) := by
  induction fs with
  | nil => exact fun s => .refl s
  | cons f fs ih => exact fun s => (calm_applyFinding l s f).trans (ih _)

theorem followRunning_on (inside wanted : Bool) (r : Running) : (followRunning inside wanted r).on = wanted := by
  unfold followRunning
  cases wanted <;> cases h : r.on <;> simp [h]

/-- Detectors that have followed their line run or rest with its channel. -/
theorem followedDetectors_fit (tick : Nat) (x : LineState) :
    DetectorsFit { x with det := followedDetectors tick x } := by
  refine ⟨fun hc => ?_, fun hc => ?_⟩
  · have ht : toneRuns x = false := by simpa [toneRuns] using hc
    simp [followedDetectors, ht, followRunning_on]
  · have ht : toneRuns x = true := by simpa [toneRuns] using hc
    have hd : dtmfRuns x = true := by
      have : x.buf.state ≠ .closed := hc
      simp [dtmfRuns, this]
    simp [followedDetectors, ht, hd, followRunning_on]

/-- After work that keeps a line calm but for its detectors, the detectors follow and all is calm. -/
theorem calm_followDetectors {l : Line} {s t : State} (h : LineCalm (s.line l) (t.line l))
    (ho : ∀ m, m ≠ l → t.line m = s.line m) (hp : ∀ p, PortServes (s.port p) (t.port p)) :
    Calm s (followDetectors l t) := by
  refine .trans ⟨fun m => ?_, fun m => ?_, fun p => ?_⟩ (calm_applyFindings l _ _)
  · rw [line_modLine]
    split
    next hm => subst hm; exact h.trans ⟨rfl, rfl, id⟩
    next hm => rw [ho m hm]; exact .refl _
  · rw [line_modLine]
    split
    next hm => subst hm; exact fun _ => followedDetectors_fit _ _
    next hm => rw [ho m hm]; exact id
  · rw [port_modLine]; exact hp p

/-- The detectors follow a state that calm work has reached. -/
theorem Calm.follow {s t : State} (l : Line) (h : Calm s t) : Calm s (followDetectors l t) :=
  h.trans (calm_followDetectors (.refl _) (fun _ _ => rfl) fun _ => .refl _)

/-- A detector that judges a block keeps its running mark, and a stopped one its state. -/
theorem judgeWhole_cases {α : Type} (r : Running) (st : α) (judge : α → α × List Finding) :
    (judgeWhole r st judge).1.on = r.on ∧ (r.on = false → (judgeWhole r st judge).2.1 = st) := by
  unfold judgeWhole
  cases hr : r.on <;> cases hk : r.skip <;> simp [hr]

theorem judgeBlock_fit {x : LineState} (h : DetectorsFit x) (now : Word) (a b : BlockReading) (due : Bool) :
    DetectorsFit { x with det := (judgeBlock now x.det a b).1, blockDue := due } := by
  obtain ⟨hrest, hrun⟩ := h
  refine ⟨fun hc => ?_, fun hc => ?_⟩
  · obtain ⟨h1, h2, h3, h4, k1, k2, k3, k4⟩ := hrest hc
    simp only [judgeBlock, (judgeWhole_cases _ _ _).1, (judgeWhole_cases _ _ _).2 h1, (judgeWhole_cases _ _ _).2 h2,
      (judgeWhole_cases _ _ _).2 h3, (judgeWhole_cases _ _ _).2 h4, h1, h2, h3, h4, k1, k2, k3, k4, and_self]
  · obtain ⟨h1, h2, h3, h4, h5⟩ := hrun hc
    simp only [judgeBlock, (judgeWhole_cases _ _ _).1, h1, h2, h3, h4, h5, and_self]

theorem calm_judgeReadings (l : Line) (a b : BlockReading) (s : State) : Calm s (judgeReadings l a b s) :=
  .trans (calm_modLine ⟨rfl, rfl, id⟩ fun h => judgeBlock_fit h _ a b _) (calm_applyFindings l _ _)

/-! ### Loop supervision (R97 to R114) -/

theorem calm_setFeedMode (l : Line) (m : FeedMode) (s : State) : Calm s (setFeedMode l m s) :=
  calm_ite (.refl s) ((calm_modSup s l _).trans (calm_feedChanged _))

theorem calm_wake (l : Line) (s : State) : Calm s (wake l s) := calm_ite (calm_setFeedMode l .normal s) (.refl s)

theorem calm_goOffHook (l : Line) (t : Bool) (s : State) : Calm s (goOffHook l t s) :=
  .follow l ((calm_modSup s l _).trans ((calm_wake l _).trans (calm_emit l _ _ _ _ _)))

theorem calm_ringTrip (l : Line) (s : State) : Calm s (ringTrip l s) :=
  (calm_endRinging true l s).trans ((calm_endCadence l _).trans ((calm_stopCallerId l _).trans (calm_goOffHook l true _)))

theorem calm_completeQualification (l : Line) (s : State) : Calm s (completeQualification l s) :=
  calm_ite (calm_ringTrip l s) (calm_goOffHook l false s)

theorem calm_settleQualification (l : Line) (s : State) : Calm s (settleQualification l s) :=
  calm_ite (calm_completeQualification l s) (.refl s)

theorem calm_emitDigit (l : Line) (s : State) : Calm s (emitDigit l s) := by
  refine (calm_modSup s l fun v => { v with pulseCount := 0, interdigitTimer := none }).trans ?_
  exact calm_ite (.refl _) (calm_ite (calm_emit l _ _ _ _ _)
    (calm_ite (calm_emit l _ _ _ _ _) (calm_emit l _ _ _ _ _)))

theorem calm_classifyBreak (l : Line) (r : BreakRecord) (b : Nat) (s : State) : Calm s (classifyBreak l r b s) := by
  refine (calm_modSup s l fun v => { v with state := .offHook, breakRecord := none }).trans ?_
  unfold classifyBreak
  dsimp only
  split
  · exact calm_modSup _ l _
  · exact calm_modSup _ l _
  · exact (calm_modSup _ l _).trans (calm_emit l _ _ _ _ _)
  · exact (calm_emitDigit l _).trans (calm_emit l _ _ _ _ _)

theorem calm_doHangUp (l : Line) (f : Nat) (s : State) : Calm s (doHangUp l f s) :=
  .follow l ((calm_modSup s l _).trans ((calm_stopTone l _).trans (calm_emit l _ _ _ _ _)))

theorem calm_returnEdge (l : Line) (r : BreakRecord) (s : State) : Calm s (returnEdge l r s) :=
  calm_ite (calm_classifyBreak l r _ s) ((calm_doHangUp l _ s).trans (calm_modLine ⟨rfl, rfl, id⟩ id))

theorem calm_offHookEdge (l : Line) (s : State) : Calm s (offHookEdge l s) := by
  refine (calm_modSup s l fun v => { v with filteredOffHook := true }).trans ?_
  unfold offHookEdge
  dsimp only
  split
  · exact calm_modLine ⟨rfl, rfl, id⟩ id
  · exact calm_returnEdge l _ _
  · exact .refl _

theorem calm_openSeries (l : Line) (s : State) : Calm s (openSeries l s) :=
  calm_ite (.refl s) ((calm_emit l _ _ _ _ s).trans (calm_modSup _ l _))

theorem calm_declareFault (l : Line) (s : State) : Calm s (declareFault l s) :=
  .follow l ((calm_modSup s l _).trans ((calm_stopRing l _).trans ((calm_stopTone l _).trans
    ((calm_openSeries l _).trans (calm_modLine ⟨rfl, rfl, id⟩ id)))))

theorem calm_closeSeries (l : Line) (s : State) : Calm s (closeSeries l s) :=
  (calm_modSup s l _).trans (calm_emit l _ _ _ _ _)

theorem calm_removeFeed (l : Line) (s : State) : Calm s (removeFeed l s) :=
  .follow l ((calm_modSup s l _).trans ((calm_feedChanged _).trans ((calm_stopRing l _).trans (calm_stopTone l _))))

theorem calm_applyFeed (l : Line) (m : FeedMode) (s : State) : Calm s (applyFeed l m s) :=
  (calm_setFeedMode l m s).trans (calm_modLine ⟨rfl, rfl, id⟩ id)

theorem calm_changeFeed (l : Line) (m : FeedMode) (s : State) : Calm s (changeFeed l m s) :=
  calm_ite (.refl s) (calm_ite (calm_removeFeed l s) (calm_ite (calm_applyFeed l m s) (calm_setFeedMode l m s)))

/-! ### The Media Channel (R24 to R31, R60, R68, R184) -/

theorem calm_closeNow (l : Line) (s : State) : Calm s (closeNow l s) :=
  calm_followDetectors (by
      rw [line_modLine_same]
      exact ⟨rfl, rfl, fun ⟨hevents, _, hdepth⟩ => ⟨hevents, ⟨Nat.zero_le _, fun _ => rfl⟩, hdepth⟩⟩)
    (fun m hm => line_modLine_other s l m _ hm) fun p => by rw [port_modLine]; exact .refl _

theorem openLine_stores (q : ChannelParams) (set : BitVec 4) (x : LineState) (h : StoresBounded x) :
    StoresBounded (openLine q set x) :=
  ⟨h.1, ⟨Nat.zero_le _, fun _ => rfl⟩, by simp [DepthBounded, openLine, Config.depthTop]⟩

theorem calm_openChannel (q : ChannelParams) (set : BitVec 4) (l : Line) (s : State) :
    Calm s (followDetectors l (s.modLine l (openLine q set))) :=
  calm_followDetectors (by rw [line_modLine_same]; exact ⟨rfl, rfl, openLine_stores q set _⟩)
    (fun m hm => line_modLine_other s l m _ hm) fun p => by rw [port_modLine]; exact .refl _

/-- A change of the buffer's state between states other than CLOSED keeps the detectors fit. -/
theorem detectorsFit_of_open {x y : LineState} (h : DetectorsFit x) (hd : y.det = x.det) (hx : x.buf.state ≠ .closed)
    (hy : y.buf.state ≠ .closed) : DetectorsFit y :=
  ⟨fun hc => absurd hc hy, fun _ => by rw [hd]; exact h.2 hx⟩

theorem calm_drain {l : Line} {s : State} (ho : (s.line l).buf.state ≠ .closed) : Calm s (s.modLine l drainLine) :=
  calm_modLine ⟨rfl, rfl, id⟩ fun h => detectorsFit_of_open h rfl ho nofun

theorem isOpen_not_closed {c : ChannelState} (h : c.isOpen = true) : c ≠ .closed := by rintro rfl; cases h

theorem calm_flush {l : Line} {s : State} (ho : (s.line l).buf.state.isOpen = true) : Calm s (s.modBuf l flushBuffer) :=
  calm_modLine ⟨rfl, rfl, fun h => ⟨h.1, ⟨Nat.zero_le _, fun _ => rfl⟩, h.2.2⟩⟩
    fun h => detectorsFit_of_open h rfl (isOpen_not_closed ho) nofun

/-- A step of the playout is calm. -/
theorem PlayoutStep.calm {x y : LineState} (h : PlayoutStep x y) : LineCalm x y where
  owner := by rw [h.only]
  generation := by rw [h.only]
  stores := fun ⟨he, hs, hd⟩ => ⟨by rw [h.only]; exact he, h.splice hs, h.depth hd⟩

theorem PlayoutStep.fit {x y : LineState} (h : PlayoutStep x y) (hx : DetectorsFit x) : DetectorsFit y := by
  have hdet : y.det = x.det := by rw [h.only]
  refine ⟨fun hc => ?_, fun hc => ?_⟩
  · rw [hdet]; exact hx.1 (h.closed.mp hc)
  · rw [hdet]; exact hx.2 (mt h.closed.mpr hc)

theorem calm_playoutStep {l : Line} {s : State} {f : LineState → LineState} (h : PlayoutStep (s.line l) (f (s.line l))) :
    Calm s (s.modLine l f) := calm_modLine h.calm h.fit

/-- The end of a drain is calm but for the detectors, which follow. -/
theorem lineCalm_drained {x y : LineState} (h : PlayoutStep x y) :
    LineCalm x { y with buf := y.buf.closedWith Period.silent } :=
  h.calm.trans ⟨rfl, rfl, fun k => ⟨k.1, ⟨Nat.zero_le _, fun _ => rfl⟩, k.2.2⟩⟩

theorem calm_beginPeriod (l : Line) (s : State) : Calm s (beginPeriod l s) := by
  unfold beginPeriod
  dsimp only
  obtain hstep | ⟨ho, y, hy, he⟩ := startPeriod_cases (s.line l)
  · have hnot : ¬ ((s.line l).buf.state ≠ .closed ∧ (startPeriod (s.line l)).1.buf.state = .closed) :=
      fun ⟨h1, h2⟩ => h1 (hstep.closed.mp h2)
    rw [if_neg hnot]
    have h : Calm s (s.modLine l fun _ => (startPeriod (s.line l)).1) := calm_playoutStep hstep
    exact calm_ite (h.trans (calm_latchOwner l _ _)) h
  · rw [if_pos ⟨ho, by rw [he]; rfl⟩]
    refine calm_followDetectors ?_ (fun m hm => ?_) fun p => ?_
    · have : LineCalm (s.line l) (startPeriod (s.line l)).1 := by rw [he]; exact lineCalm_drained hy
      split <;> simpa using this
    · split <;> simp [line_modLine_other _ _ _ _ hm]
    · split
      · have := (calm_latchOwner l (.playoutAlert l) (s.modLine l fun _ => (startPeriod (s.line l)).1)).ports p
        rwa [port_modLine] at this
      · rw [port_modLine]; exact .refl _

/-! ### Outbound media (R29, R183, R184) -/

theorem countP_reply_takeMedia (q : List Message) :
    (takeMedia q).2.countP Message.isReply = q.countP Message.isReply := by
  induction q with
  | nil => rfl
  | cons m q ih =>
    cases m with
    | reply r => simp [takeMedia, List.countP_cons, ih]
    | media f => simp [takeMedia, Message.isReply]

theorem countP_reply_takeOldest (q : PortLink) :
    (takeOldest q).2.countP Message.isReply = q.outbound.countP Message.isReply := by
  unfold takeOldest
  split
  next h => simp [h, List.countP_cons, countP_reply_takeMedia]
  next => exact countP_reply_takeMedia _

theorem calm_makeRoom (p : Port) (s : State) : Calm s (makeRoom p s) := by
  refine calm_ite (.refl s) ?_
  dsimp only
  have h : Calm s (s.modPort p fun q => { q with outbound := (takeOldest (s.port p)).2 }) :=
    calm_modPort ⟨rfl, countP_reply_takeOldest _⟩
  split
  · exact h.trans (calm_modCtr _ _ _)
  · exact h

theorem calm_enqueueMedia (p : Port) (f : MediaFrame) (s : State) : Calm s (enqueueMessage p (.media f) s) :=
  calm_modPort ⟨rfl, by simp [replyCount, Message.isReply]⟩

theorem calm_routeUplink (l : Line) (f : MediaFrame) (s : State) : Calm s (routeUplink l f s) := by
  unfold routeUplink
  split
  · exact (calm_makeRoom _ s).trans ((calm_enqueueMedia _ f _).trans (calm_modCtr _ l _))
  · exact calm_modCtr s l _

theorem countP_reply_purged (l : Line) (q : List Message) :
    (q.filter fun m => !m.isMediaOf l).countP Message.isReply = q.countP Message.isReply := by
  rw [List.countP_filter]
  congr 1
  funext m
  cases m <;> simp [Message.isReply, Message.isMediaOf]

theorem calm_purgeMedia (p : Port) (l : Line) (s : State) : Calm s (purgeMedia p l s) := by
  have h : Calm s (s.modPort p fun q => { q with outbound := q.outbound.filter fun m => !m.isMediaOf l
                                                 sending := keepSending (Message.isMediaOf l) q }) :=
    calm_modPort ⟨rfl, countP_reply_purged l _⟩
  unfold purgeMedia
  exact h.trans (calm_modCtr _ l _)

end Sys2Proof.Machine
end

section
/-! SUPPORT. What each command does to owners, bounds and waiting commands: the work on one line, whole commands, the FIFO after
a sent message, and every row of the table. -/

namespace Sys2Proof.Machine

open Sys2Proof.Claim Sys2Proof.Safety

/-! ### Owner changes and resets (R3, R8 to R12, R19, R21) -/

/-- A line keeps owner and generation, or has another owner and the next generation (R3). -/
def OwnerCounted (x y : LineState) : Prop :=
  (y.owner = x.owner ∧ y.generation = x.generation) ∨ (y.owner ≠ x.owner ∧ y.generation = x.generation + 1)

theorem LineCalm.counted {x y : LineState} (h : LineCalm x y) : OwnerCounted x y := .inl ⟨h.owner, h.generation⟩

theorem calm_channelAtChange (l : Line) (s : State) : Calm s (channelAtChange l s) := by
  refine calm_ite (.refl s) (.trans ?_ (calm_restartAgreement l _))
  exact calm_modLine ⟨rfl, rfl, fun h => ⟨h.1, ⟨Nat.zero_le _, fun _ => rfl⟩, h.2.2⟩⟩ id

theorem calm_noticeQueued (l : Line) (s : State) : Calm s (noticeQueued l s) :=
  calm_ite (.refl s) (calm_latchOwner l _ s)

theorem calm_leavePort (l : Line) (o : Option Port) (s : State) : Calm s (leavePort l o s) := by
  cases o with
  | some p => exact (calm_latch p _ s).trans (calm_purgeMedia p l _)
  | none => exact .refl s

/-- The line with its new owner, before the effects of the change. -/
def reowned (new : Option Port) (x : LineState) : LineState := { x with owner := new, generation := x.generation + 1 }

/-- An owner change is the new owner with the next generation, and then calm work. -/
theorem calm_changeOwner (l : Line) (new : Option Port) (s : State) :
    Calm (s.modLine l (reowned new)) (changeOwner l new s) :=
  (calm_leavePort l _ _).trans ((calm_channelAtChange l _).trans (calm_noticeQueued l _))

theorem calm_endRingCadence (g : Bool) (l : Line) (s : State) : Calm s (endRingCadence g l s) :=
  calm_ite ((calm_endRinging g l s).trans (calm_endCadence l _)) (.refl s)

/-- A line at rest after a reset is within its bounds, whatever its estimates were. -/
theorem lineCalm_resetLineState (x : LineState) : LineCalm x (resetLineState x) :=
  ⟨rfl, rfl, fun h => ⟨Nat.zero_le _, ⟨Nat.zero_le _, fun _ => rfl⟩, h.2.2⟩⟩

theorem resetLineState_fit (x : LineState) : DetectorsFit (resetLineState x) :=
  ⟨fun _ => ⟨rfl, rfl, rfl, rfl, rfl, rfl, rfl, rfl⟩, fun hc => absurd rfl hc⟩

theorem calm_resetLine (g : Bool) (l : Line) (s : State) : Calm s (resetLine g l s) :=
  (calm_endRingCadence g l s).trans (calm_modLine (lineCalm_resetLineState _) fun _ => resetLineState_fit _)

/-! ### The work of a command on one line -/

/-- Work on line `l`: its owner is kept or counted, the other line's is kept, bounds and ports are kept. -/
structure LineAct (l : Line) (s u : State) : Prop where
  counted : OwnerCounted (s.line l) (u.line l)
  other : (u.line (otherLine l)).owner = (s.line (otherLine l)).owner
    ∧ (u.line (otherLine l)).generation = (s.line (otherLine l)).generation
  bounded : ∀ m, LineBounded (s.line m) → LineBounded (u.line m)
  ports : ∀ p, PortServes (s.port p) (u.port p)

theorem Calm.act {s u : State} (h : Calm s u) (l : Line) : LineAct l s u :=
  ⟨(h.lines l).counted, ⟨(h.lines _).owner, (h.lines _).generation⟩, fun _ => h.bounded, h.ports⟩

theorem lineAct_changeOwner {l : Line} {new : Option Port} {s : State} (h : new ≠ (s.line l).owner) :
    LineAct l s (changeOwner l new s) := by
  have hc := calm_changeOwner l new s
  have hl := hc.lines l
  have ho := hc.lines (otherLine l)
  rw [line_modLine_same] at hl
  rw [line_modLine_other _ _ _ _ (otherLine_ne l)] at ho
  refine ⟨.inr ⟨by rw [hl.owner]; exact h, hl.generation⟩, ⟨ho.owner, ho.generation⟩, fun m hb => hc.bounded ?_,
    fun p => by simpa using hc.ports p⟩
  rw [line_modLine]
  split
  · exact hb
  · exact hb

theorem LineAct.trans_calm {l : Line} {s t u : State} (h : LineAct l s t) (k : Calm t u) : LineAct l s u where
  counted := by
    have hk := k.lines l
    rw [OwnerCounted, hk.owner, hk.generation]; exact h.counted
  other := ⟨(k.lines _).owner.trans h.other.1, (k.lines _).generation.trans h.other.2⟩
  bounded m hb := k.bounded (h.bounded m hb)
  ports p := (h.ports p).trans (k.ports p)

/-- An accepted work leaves its own state. -/
theorem Calm.accepted {s t : State} (h : Calm s t) (data : List Byte) : Calm s (accept t data).state := h

theorem calm_closeOnLine (l : Line) (s : State) : Calm s (closeOnLine l s).state := by
  unfold closeOnLine
  split
  · exact .refl s
  · exact calm_closeNow l s

theorem calm_drainOnLine (l : Line) (s : State) : Calm s (drainOnLine l s).state := by
  unfold drainOnLine
  split
  · exact .refl s
  · exact .refl s
  next h _ => exact calm_drain fun hc => h hc

/-- The work of every row that needs ownership, done on a line of its port. -/
theorem OwnerWork.act {p : Port} {w : Line → State → Answer} (h : OwnerWork p w) {l : Line} {s : State}
    (ho : (s.line l).owner = some p) : LineAct l s (w l s).state := by
  cases h with
  | release => exact lineAct_changeOwner (by rw [ho]; nofun)
  | handOver =>
    refine (lineAct_changeOwner (new := some (otherPort p)) ?_).trans_calm (calm_latch (otherPort p) _ _)
    rw [ho]; simp
  | readEvents =>
    refine Calm.act (Calm.accepted (calm_modLine ⟨rfl, rfl, fun hs => ⟨?_, hs.2⟩⟩ id) _) l
    exact Nat.le_trans (by rw [List.length_drop]; exact Nat.sub_le ..) hs.1
  | lineReset => exact (calm_resetLine true l s).act l
  | setFeed mode =>
    refine Calm.act ?_ l
    unfold feedOnLine
    split
    · exact .refl s
    · split
      · exact .refl s
      · exact calm_changeFeed l _ s
  | setHookTiming t =>
    refine Calm.act ?_ l
    unfold timingOnLine
    split
    · exact Calm.accepted (calm_modSup s l _) _
    · exact .refl s
  | ringStart step =>
    refine Calm.act ?_ l
    unfold ringStartOnLine
    split
    · exact .refl s
    · split
      · exact (calm_stopRing l s).trans ((calm_wake l _).trans ((calm_startCadence .ring l _ _).trans
          (calm_settleQualification l _)))
      · exact .refl s
  | ringStop =>
    exact (calm_ite ((calm_stopRing l s).trans (calm_settleQualification l _)) (.refl s)).act l
  | toneStart step =>
    refine Calm.act ?_ l
    unfold toneStartOnLine
    split
    · split
      · exact (calm_stopTone l s).trans (calm_startCadence .tone l _ _)
      · exact .refl s
    · exact .refl s
  | toneStop => exact (calm_stopTone l s).act l
  | loadCallerId f =>
    refine Calm.act ?_ l
    unfold loadOnLine
    dsimp only
    split
    · exact .refl s
    · split
      · exact Calm.accepted (calm_modCid s l _) _
      · exact .refl s
  | channelOpen ability q =>
    refine Calm.act ?_ l
    unfold openOnLine
    split
    · exact .refl s
    · split
      · exact calm_openChannel q _ l s
      · exact .refl s
  | channelClose => exact (calm_closeOnLine l s).act l
  | channelDrain => exact (calm_drainOnLine l s).act l
  | channelCloseBy option =>
    refine Calm.act ?_ l
    unfold closeByOption
    split
    · exact calm_closeOnLine l s
    · split
      · exact calm_drainOnLine l s
      · split <;> exact .refl s
  | channelFlush =>
    refine Calm.act ?_ l
    unfold flushOnLine
    split
    · exact .refl s
    next h => exact calm_flush (by simpa [notOpen] using h)
  | setAbility ability =>
    refine Calm.act ?_ l
    unfold abilityOnLine
    dsimp only
    split
    · exact .refl s
    · split
      · exact .refl s
      · split
        · exact Calm.accepted (calm_modChan s l _) _
        · exact .refl s
  | setClass mediaClass =>
    refine Calm.act ?_ l
    unfold classOnLine
    split
    · exact .refl s
    · split
      · exact (calm_modChan s l _).trans (calm_restartAgreement l _)
      · exact .refl s
  | agreementRestart =>
    refine Calm.act ?_ l
    unfold restartOnLine
    split
    · exact .refl s
    · exact calm_restartAgreement l s

/-! ### Whole commands -/

/-- Every line's owner is kept or counted, and its bounds are kept. -/
structure LinesCounted (s u : State) : Prop where
  counted : ∀ l, OwnerCounted (s.line l) (u.line l)
  bounded : ∀ l, LineBounded (s.line l) → LineBounded (u.line l)

/-- A port keeps its waiting commands and its number of replies, or its FIFO is emptied. -/
def PortDrains (q r : PortLink) : Prop := PortServes q r ∨ r.fifo = []

/-- What a command does before its reply is queued. -/
structure Executed (s u : State) : Prop extends LinesCounted s u where
  ports : ∀ p, PortDrains (s.port p) (u.port p)

theorem Calm.counted {s u : State} (h : Calm s u) : LinesCounted s u := ⟨fun l => (h.lines l).counted, fun _ => h.bounded⟩

theorem Calm.executed {s u : State} (h : Calm s u) : Executed s u := ⟨h.counted, fun p => .inl (h.ports p)⟩

theorem LineAct.executed {l : Line} {s u : State} (h : LineAct l s u) : Executed s u where
  counted m := by
    by_cases hm : m = l
    · rw [hm]; exact h.counted
    · rw [eq_otherLine hm]; exact .inl h.other
  bounded := h.bounded
  ports p := .inl (h.ports p)

/-- Line 1's work and then Line 2's. -/
theorem LineAct.both {s t u : State} (h : LineAct .one s t) (k : LineAct .two t u) : Executed s u where
  counted l := by
    cases l with
    | one =>
      have hk : (u.line .one).owner = (t.line .one).owner ∧ (u.line .one).generation = (t.line .one).generation := k.other
      rw [OwnerCounted, hk.1, hk.2]; exact h.counted
    | two =>
      have hh : (t.line .two).owner = (s.line .two).owner ∧ (t.line .two).generation = (s.line .two).generation := h.other
      rw [OwnerCounted, ← hh.1, ← hh.2]; exact k.counted
  bounded m hb := k.bounded m (h.bounded m hb)
  ports p := .inl ((h.ports p).trans (k.ports p))

/-- A command that needs ownership works only on lines that its port owns. -/
theorem executed_ownerCommand {p : Port} {w : Line → State → Answer} (h : OwnerWork p w) (field : Byte) (s : State) :
    Executed s (ownerCommand p field w s).state := by
  have hone {l : Line} (ho : owns s p l = true) : LineAct l s (w l s).state := h.act (by simpa [owns] using ho)
  unfold ownerCommand
  split
  · split
    next ho => exact (hone ho).executed
    next => exact (Calm.refl s).executed
  · split
    · split
      · exact (Calm.refl s).executed
      next ho _ => exact (hone ho).executed
      next ho => exact (hone ho).executed
      next h1 h2 =>
        refine (hone h1).both (h.act ?_)
        have : (s.line .two).owner = some p := by simpa [owns] using h2
        exact ((hone h1).other.1).trans this
    · exact (Calm.refl s).executed

theorem executed_doClaim (p : Port) (line owner : Byte) (g : Word) (s : State) :
    Executed s (doClaim p line owner g s).state := by
  unfold doClaim
  split
  next l o _ _ =>
    unfold claimLine
    split
    next h =>
      dsimp only [accept]
      split
      · exact (Calm.refl s).executed
      next ho => exact (lineAct_changeOwner (by rw [h.1]; exact Ne.symm ho)).executed
    · exact (Calm.refl s).executed
  · exact (Calm.refl s).executed
  · exact (Calm.refl s).executed

theorem executed_doReadLine (line : Byte) (s : State) : Executed s (doReadLine line s).state := by
  unfold doReadLine reportCommand
  split
  · exact (Calm.refl s).executed
  · split <;> exact (Calm.refl s).executed

theorem calm_clearCounters (clear : Byte) (l : Line) (s : State) : Calm s (clearCounters clear l s) :=
  calm_ite (.refl s) (calm_modCtr s l _)

theorem executed_doReadCounters (line clear : Byte) (s : State) : Executed s (doReadCounters line clear s).state := by
  unfold doReadCounters reportCommand
  split
  · exact (calm_clearCounters clear _ s).executed
  · split
    · exact ((calm_clearCounters clear _ s).trans (calm_clearCounters clear _ _)).executed
    · exact (Calm.refl s).executed

theorem executed_doLoadCallerId (p : Port) (c : Command) (s : State) : Executed s (doLoadCallerIdBytes p c s).state := by
  unfold doLoadCallerIdBytes
  split
  · exact (Calm.refl s).executed
  · split
    · unfold doLoadCallerId
      split
      · exact (Calm.refl s).executed
      · exact executed_ownerCommand (.loadCallerId _) _ s
    · exact (Calm.refl s).executed

/-! ### DEVICE_RESET -/

/-- What DEVICE_RESET makes of a line before its owner is dropped (R21). -/
def deviceResetState (x : LineState) : LineState :=
  { resetLineState { x with sup := { x.sup with feed := .normal } } with
    chan := MediaChannel.reset, depth := DepthTracker.reset }

/-- The end of a ring cadence within DEVICE_RESET, where nobody is granted, changes the line's cadence alone. -/
theorem line_endRingCadence_false (l m : Line) (s : State) :
    (m ≠ l → (endRingCadence false l s).line m = s.line m)
      ∧ ∃ c, (endRingCadence false l s).line l = { s.line l with cad := c } := by
  have hring (k : Line) : (endRinging false l s).line k = s.line k := by
    unfold endRinging; split <;> simp
  unfold endRingCadence endCadence
  split
  · refine ⟨fun hm => ?_, endedEngine (s.line l).cad, ?_⟩
    · split <;> simp [line_modCad_other _ _ _ _ hm, hring]
    · split <;> simp [hring]
  · exact ⟨fun _ => rfl, _, rfl⟩

theorem line_deviceResetLine (l m : Line) (s : State) :
    (deviceResetLine l s).line m = if m = l then deviceResetState (s.line m) else s.line m := by
  obtain ⟨ho, c, hc⟩ := line_endRingCadence_false l m (s.modSup l fun v => { v with feed := .normal })
  unfold deviceResetLine resetLine
  split
  next hm =>
    subst hm
    simp only [line_modLine_same, hc, line_modSup_same]
    rfl
  next hm => simp only [line_modLine_other _ _ _ _ hm, ho hm, line_modSup_other _ _ _ _ hm]

theorem line_resetDevice (p : Port) (l : Line) (s : State) :
    (resetDevice p s).line l = dropOwner p (deviceResetState (s.line l)) := by
  simp only [resetDevice, line_modPort, line_modRing, line_modLine, line_deviceResetLine]
  cases l <;> rfl

theorem deviceResetState_bounded (x : LineState) : LineBounded (deviceResetState x) :=
  (lineBounded_iff _).mpr ⟨⟨Nat.zero_le _, ⟨Nat.zero_le _, fun _ => rfl⟩, by
    simp [DepthBounded, deviceResetState, DepthTracker.reset, Config.depthTop]⟩, resetLineState_fit _⟩

theorem executed_doDeviceReset (p : Port) (s : State) : Executed s (doDeviceReset p s).state := by
  unfold doDeviceReset
  split
  · exact (Calm.refl s).executed
  · refine ⟨⟨fun l => ?_, fun l _ => ?_⟩, fun q => .inr ?_⟩
    · simp only [accept, line_resetDevice, dropOwner]
      split
      next h => exact .inr ⟨by rw [show (s.line l).owner = some p from h]; nofun, rfl⟩
      next => exact .inl ⟨rfl, rfl⟩
    · simp only [accept, line_resetDevice, dropOwner]
      split <;> exact deviceResetState_bounded _
    · cases q <;> rfl

/-! ### The shared table and the port's own commands -/

theorem calm_table {s t : State} (h1 : t.line1 = s.line1) (h2 : t.line2 = s.line2) (ha : t.portA = s.portA)
    (hb : t.portB = s.portB) : Calm s t where
  lines l := by cases l <;> simp only [State.line, h1, h2] <;> exact .refl _
  fits l := by cases l <;> simp only [State.line, h1, h2] <;> exact id
  ports p := by cases p <;> simp only [State.port, ha, hb] <;> exact .refl _

theorem calm_writeEntry {i : Fin 80} {e0 e1 e2 e3 e4 e5 : Byte} {s t : State}
    (h : writeEntry i e0 e1 e2 e3 e4 e5 s = some t) : Calm s t := by
  unfold writeEntry at h
  split at h
  · obtain ⟨e, -, rfl⟩ := Option.map_eq_some_iff.mp h
    exact calm_table rfl rfl rfl rfl
  · cases h
    exact calm_table rfl rfl rfl rfl

theorem calm_doTablePointer (p : Port) (i : Byte) (s : State) : Calm s (doTablePointer p i s).state := by
  unfold doTablePointer
  split
  · exact Calm.accepted (calm_modPort (.refl _)) _
  · exact .refl s

theorem calm_doTableWrite (p : Port) (e0 e1 e2 e3 e4 e5 : Byte) (s : State) :
    Calm s (doTableWrite p e0 e1 e2 e3 e4 e5 s).state := by
  unfold doTableWrite
  dsimp only
  split
  next h => exact Calm.accepted ((calm_writeEntry h).trans (calm_modPort (.refl _))) _
  next => exact .refl s

theorem calm_doTableRead (p : Port) (s : State) : Calm s (doTableRead p s).state :=
  Calm.accepted (calm_ite (.refl s) (calm_modPort (.refl _))) _

theorem calm_doTableHold (p : Port) (s : State) : Calm s (doTableHold p s).state := by
  unfold doTableHold
  split
  · exact .refl s
  · exact Calm.accepted (calm_modPort (.refl _)) _

theorem calm_doTableEnd (p : Port) (s : State) : Calm s (doTableEnd p s).state := by
  unfold doTableEnd
  split
  · exact Calm.accepted (calm_modPort (.refl _)) _
  · exact .refl s

theorem calm_doReadNotices (p : Port) (s : State) : Calm s (doReadNotices p s).state :=
  Calm.accepted (calm_modPort (.refl _)) _

theorem calm_doSetNoticeMask (p : Port) (m : Word) (s : State) : Calm s (doSetNoticeMask p m s).state :=
  Calm.accepted (calm_modPort (.refl _)) _

/-- The execution of every known command. -/
theorem executed_run (k : CommandCode) (p : Port) (c : Command) (s : State) : Executed s (run k p c s).state := by
  cases k with
  | nop => exact (Calm.refl s).executed
  | readNotices => exact (calm_doReadNotices ..).executed
  | setNoticeMask => exact (calm_doSetNoticeMask ..).executed
  | claim => exact executed_doClaim ..
  | release => exact executed_ownerCommand .release ..
  | handOver => exact executed_ownerCommand .handOver ..
  | readLine => exact executed_doReadLine ..
  | readEvents => exact executed_ownerCommand .readEvents ..
  | lineReset => exact executed_ownerCommand .lineReset ..
  | deviceReset => exact executed_doDeviceReset ..
  | setFeed => exact executed_ownerCommand (.setFeed _) ..
  | setHookTiming => exact executed_ownerCommand (.setHookTiming _) ..
  | ringStart => exact executed_ownerCommand (.ringStart _) ..
  | ringStop => exact executed_ownerCommand .ringStop ..
  | toneStart => exact executed_ownerCommand (.toneStart _) ..
  | toneStop => exact executed_ownerCommand .toneStop ..
  | loadCallerId => exact executed_doLoadCallerId ..
  | channelOpen => exact executed_ownerCommand (.channelOpen _ _) ..
  | channelClose => exact executed_ownerCommand (.channelCloseBy _) ..
  | channelFlush => exact executed_ownerCommand .channelFlush ..
  | setAbility => exact executed_ownerCommand (.setAbility _) ..
  | setClass => exact executed_ownerCommand (.setClass _) ..
  | agreementRestart => exact executed_ownerCommand .agreementRestart ..
  | readCounters => exact executed_doReadCounters ..
  | tablePointer => exact (calm_doTablePointer ..).executed
  | tableWrite => exact (calm_doTableWrite ..).executed
  | tableRead => exact (calm_doTableRead ..).executed
  | tableHold => exact (calm_doTableHold ..).executed
  | tableEnd => exact (calm_doTableEnd ..).executed

theorem executed_perform (p : Port) (c : Command) (s : State) : Executed s (perform p c s).state := by
  unfold perform
  split
  · split
    · exact executed_run ..
    · exact (Calm.refl s).executed
  · exact (Calm.refl s).executed

/-! ### The issue of a command, and the FIFO -/

theorem line_answerReply (p : Port) (c : Command) (a : Answer) (l : Line) : (answerReply p c a).line l = a.state.line l :=
  line_enqueueMessage ..

theorem line_enqueueCommand (p : Port) (c : Command) (s : State) (l : Line) : (enqueueCommand p c s).line l = s.line l := by
  unfold enqueueCommand; split <;> simp

theorem linesCounted_of_lines {s u : State} (h : ∀ l, u.line l = s.line l) : LinesCounted s u :=
  ⟨fun l => .inl (by rw [h]; exact ⟨rfl, rfl⟩), fun l hb => by rwa [h]⟩

theorem LinesCounted.of_lines {s u v : State} (h : LinesCounted s u) (hv : ∀ l, v.line l = u.line l) : LinesCounted s v :=
  ⟨fun l => by rw [hv]; exact h.counted l, fun l hb => by rw [hv]; exact h.bounded l hb⟩

theorem LinesCounted.from_lines {s t u : State} (h : LinesCounted t u) (ht : ∀ l, t.line l = s.line l) :
    LinesCounted s u :=
  ⟨fun l => by rw [← ht]; exact h.counted l, fun l hb => h.bounded l (by rwa [ht])⟩

/-- A command taken executes, waits or is lost. -/
theorem linesCounted_issue {p : Port} {c : Command} {act : State → Answer} {s : State} (h : Executed s (act s).state) :
    LinesCounted s (issue p c act s) := by
  unfold issue
  split
  · exact h.toLinesCounted.of_lines (line_answerReply p c _)
  · exact linesCounted_of_lines (line_enqueueCommand p c s)

/-- No command of a FIFO executes while 8 replies wait, or where none waits (R182). -/
theorem drainFifo_waits (p : Port) (n : Nat) {s : State} (h : 8 ≤ replyCount (s.port p) ∨ (s.port p).fifo = []) :
    drainFifo p n s = s := by
  cases n with
  | zero => rfl
  | succ n =>
    unfold drainFifo
    obtain h | h := h
    · split
      · rw [if_neg (by simp only [Config.replyPlaces]; omega)]
      · rfl
    · simp only [h]

theorem replyCount_answerReply (p : Port) (c : Command) (a : Answer) :
    replyCount ((answerReply p c a).port p) = replyCount (a.state.port p) + 1 := by
  simp [answerReply, port_enqueueMessage, replyCount, Message.isReply]

theorem fifo_answerReply (p : Port) (c : Command) (a : Answer) :
    ((answerReply p c a).port p).fifo = (a.state.port p).fifo := by
  simp [answerReply, port_enqueueMessage]

/-- Where seven replies or more wait at least, at most one command of the FIFO executes. -/
theorem drainFifo_once (p : Port) (n : Nat) {s : State} (h : 7 ≤ replyCount (s.port p) ∨ (s.port p).fifo = []) :
    LinesCounted s (drainFifo p n s) := by
  cases n with
  | zero => exact (Calm.refl s).counted
  | succ n =>
    unfold drainFifo
    split
    next c rest hf =>
      split
      · have h7 : 7 ≤ replyCount (s.port p) := h.resolve_right (by rw [hf]; nofun)
        have hx := executed_perform p c (s.modPort p fun q => { q with fifo := rest })
        have hstop : drainFifo p n (answerReply p c (perform p c (s.modPort p fun q => { q with fifo := rest })))
            = answerReply p c (perform p c (s.modPort p fun q => { q with fifo := rest })) := by
          refine drainFifo_waits p n ?_
          rw [replyCount_answerReply, fifo_answerReply]
          obtain ⟨-, hr⟩ | he := hx.ports p
          · rw [port_modPort_same] at hr
            exact .inl (by rw [hr]; exact Nat.succ_le_succ h7)
          · exact .inr he
        dsimp only
        rw [hstop]
        exact (hx.toLinesCounted.of_lines (line_answerReply p c _)).from_lines (line_modPort s p _)
      · exact (Calm.refl s).counted
    next => exact (Calm.refl s).counted

/-- However many commands of a FIFO execute, the lines' bounds are kept. -/
theorem drainFifo_bounded (p : Port) (n : Nat) (l : Line) :
    ∀ s : State, LineBounded (s.line l) → LineBounded ((drainFifo p n s).line l) := by
  induction n with
  | zero => exact fun s => id
  | succ n ih =>
    intro s hb
    unfold drainFifo
    split
    · split
      · refine ih _ ?_
        rw [line_answerReply]
        exact (executed_perform p _ _).bounded l (by rwa [line_modPort])
      · exact hb
    · exact hb

/-! ### Intake and time -/

theorem calm_countForeign (p : Port) (s : State) : Calm s (countForeign p s) := calm_modPort (.refl _)

theorem calm_deliverFrame {l : Line} {s : State} (r : FrameRecord) (ho : (s.line l).buf.state ≠ .closed) :
    Calm s (deliverFrame l r s) := by
  unfold deliverFrame
  dsimp only
  split
  next hp => exact calm_playoutStep (playoutStep_spliceAppend _ r hp)
  next =>
    have h : Calm s (s.modLine l fun x => arrive x r) := calm_playoutStep (playoutStep_arrive _ r ho)
    exact calm_ite (h.trans (calm_latchOwner l _ _)) h

theorem buf_latchOwner_modChan (l m : Line) (n : Notice) (f : MediaChannel → MediaChannel) (s : State) :
    ((latchOwner l n (s.modChan l f)).line m).buf = (s.line m).buf := by
  rw [line_latchOwner, State.modChan, line_modLine]; split <;> rfl

theorem buf_setAgreement (l m : Line) (a : Agreement) (s : State) : ((setAgreement l a s).line m).buf = (s.line m).buf := by
  unfold setAgreement
  split
  · rfl
  · exact buf_latchOwner_modChan ..

theorem buf_changeMode (l m : Line) (a : Mode) (s : State) : ((changeMode l a s).line m).buf = (s.line m).buf := by
  unfold changeMode
  split
  · rfl
  · exact buf_latchOwner_modChan ..

theorem buf_modChan (l m : Line) (f : MediaChannel → MediaChannel) (s : State) :
    ((s.modChan l f).line m).buf = (s.line m).buf := by
  rw [State.modChan, line_modLine]; split <;> rfl

theorem buf_restartAgreement (l m : Line) (s : State) : ((restartAgreement l s).line m).buf = (s.line m).buf := by
  rw [restartAgreement, line_modLine]
  split <;> exact buf_setAgreement ..

theorem buf_wordInAdvertise (l m : Line) (w : ModeWord) (s : State) :
    ((wordInAdvertise l w s).line m).buf = (s.line m).buf :=
  (buf_setAgreement ..).trans (buf_modChan ..)

/-- The examination of a frame leaves every Playout Buffer as it was. -/
theorem buf_examineFrame (l m : Line) (w : Option ModeWord) (s : State) :
    ((examineFrame l w s).line m).buf = (s.line m).buf := by
  cases w with
  | none =>
    simp only [examineFrame, receiveBare]
    split
    · split
      · exact buf_modChan ..
      · exact (buf_modChan ..).trans ((buf_changeMode ..).trans ((buf_setAgreement ..).trans (buf_modChan ..)))
    · rfl
  | some w =>
    have hrestart := (buf_wordInAdvertise l m w _).trans (buf_restartAgreement l m s)
    simp only [examineFrame, receiveWord]
    split
    · exact buf_wordInAdvertise ..
    · unfold wordInMatched
      dsimp only
      split
      · split
        · exact (buf_modChan ..).trans ((buf_changeMode ..).trans (buf_setAgreement ..))
        · rfl
      · exact buf_modChan ..
    · split
      · rfl
      · exact hrestart
    · exact hrestart

theorem calm_routeFrame (p : Port) (f : MediaFrame) (s : State) : Calm s (routeFrame p f s) := by
  unfold routeFrame
  dsimp only
  split
  · split
    next ho =>
      refine (calm_examineFrame f.line f.word s).trans (calm_deliverFrame _ ?_)
      rw [buf_examineFrame]; exact isOpen_not_closed ho
    next => exact calm_modCtr s _ _
  · exact calm_modCtr s _ _

theorem calm_lineSample {rx1 rx2 : Sample} {s : State} :
    Calm s (passBlock (passMillisecond { s with
      line1 := sampleLine rx1 s.line1, line2 := sampleLine rx2 s.line2, ring := laterMoment s.ring
      tick := (s.tick + 1) % 40 })) := by
  have hsample : Calm s { s with
      line1 := sampleLine rx1 s.line1, line2 := sampleLine rx2 s.line2, ring := laterMoment s.ring
      tick := (s.tick + 1) % 40 } :=
    ⟨fun l => by cases l <;> exact ⟨rfl, rfl, id⟩, fun l => by cases l <;> exact id,
      fun p => by cases p <;> exact .refl _⟩
  have hms (t : State) : Calm t (passMillisecond t) :=
    calm_ite ⟨fun l => by cases l <;> exact ⟨rfl, rfl, id⟩, fun l => by cases l <;> exact id,
      fun p => by cases p <;> exact .refl _⟩ (.refl t)
  have hblock (t : State) : Calm t (passBlock t) :=
    calm_ite ⟨fun l => by cases l <;> exact ⟨rfl, rfl, id⟩, fun l => by cases l <;> exact id,
      fun p => by cases p <;> exact .refl _⟩ (.refl t)
  exact hsample.trans ((hms _).trans (hblock _))

theorem calm_startTimer (s : State) : Calm s
    (if startDue s.ring then
      let t := s.modRing fun a => { a with converter := .ready, startTimer := none }
      if t.ring.waitList = [] then judgeKeepWarm t else grantHead t
    else s) := by
  refine calm_ite ?_ (.refl s)
  have h := calm_modRing s fun a => { a with converter := .ready, startTimer := none }
  exact calm_ite (h.trans (calm_judgeKeepWarm _)) (h.trans (calm_grantHead _))

/-- What the end of a transaction leaves (R178, R179). -/
theorem calm_chipSelectHigh (p : Port) (clocked : List Byte) (s : State) : Calm s
    (if cutsMessage (s.port p) clocked then
      latch p .framing ((s.modPort p endTransaction).modPort p fun q => { q with cutMessages := satAdd q.cutMessages 1 })
    else s.modPort p endTransaction) := by
  have h : Calm s (s.modPort p endTransaction) := calm_modPort (.refl _)
  exact calm_ite (h.trans ((calm_modPort (.refl _)).trans (calm_latch p _ _))) h

theorem calm_chipSelectLow (p : Port) (kind : Option Byte) (s : State) : Calm s (s.modPort p (beginTransaction kind)) := by
  refine calm_modPort ?_
  unfold beginTransaction
  split
  · exact .refl _
  · split
    · exact .refl _
    · split <;> exact .refl _

/-! ### Every row -/

/-- Every row but POWER_ON_RESET and MESSAGE_SENT keeps or counts owners, and keeps bounds. -/
theorem exec_linesCounted {c : Instr} {s t : State} (hp : c ≠ .powerOnReset) (hm : ∀ p, c ≠ .messageSent p)
    (h : exec c s = .next t) : LinesCounted s t := by
  cases c <;> cases h
  case powerOnReset => exact absurd rfl hp
  case messageSent p => exact absurd rfl (hm p)
  case chipSelectLow p kind => exact (calm_ite (calm_chipSelectLow p kind s) (.refl s)).counted
  case chipSelectHigh p clocked => exact (calm_chipSelectHigh p clocked s).counted
  case commandTaken p body =>
    split
    · split
      · exact linesCounted_issue (executed_perform p _ s)
      · exact (calm_countForeign p s).counted
    · exact (Calm.refl s).counted
  case foreignMessage p type body => exact (calm_ite (calm_countForeign p s) (.refl s)).counted
  case mediaTaken p body =>
    split
    · split
      · exact (calm_routeFrame p _ s).counted
      · exact (calm_modPort (.refl _) : Calm s (s.modPort p _)).counted
    · exact (Calm.refl s).counted
  case unknownCommand => exact linesCounted_issue (Calm.refl s).executed
  case nop => exact linesCounted_issue (Calm.refl s).executed
  case readNotices => exact linesCounted_issue (calm_doReadNotices ..).executed
  case setNoticeMask => exact linesCounted_issue (calm_doSetNoticeMask ..).executed
  case claim => exact linesCounted_issue (executed_doClaim ..)
  case release => exact linesCounted_issue (executed_ownerCommand .release ..)
  case handOver => exact linesCounted_issue (executed_ownerCommand .handOver ..)
  case readLine => exact linesCounted_issue (executed_doReadLine ..)
  case readEvents => exact linesCounted_issue (executed_ownerCommand .readEvents ..)
  case lineReset => exact linesCounted_issue (executed_ownerCommand .lineReset ..)
  case deviceReset => exact linesCounted_issue (executed_doDeviceReset ..)
  case setFeed => exact linesCounted_issue (executed_ownerCommand (.setFeed _) ..)
  case setHookTiming => exact linesCounted_issue (executed_ownerCommand (.setHookTiming _) ..)
  case ringStart => exact linesCounted_issue (executed_ownerCommand (.ringStart _) ..)
  case ringStop => exact linesCounted_issue (executed_ownerCommand .ringStop ..)
  case toneStart => exact linesCounted_issue (executed_ownerCommand (.toneStart _) ..)
  case toneStop => exact linesCounted_issue (executed_ownerCommand .toneStop ..)
  case loadCallerId => exact linesCounted_issue (executed_doLoadCallerId ..)
  case channelOpen => exact linesCounted_issue (executed_ownerCommand (.channelOpen _ _) ..)
  case channelCloseImmediate => exact linesCounted_issue (executed_ownerCommand .channelClose ..)
  case channelCloseDrain => exact linesCounted_issue (executed_ownerCommand .channelDrain ..)
  case channelFlush => exact linesCounted_issue (executed_ownerCommand .channelFlush ..)
  case setAbility => exact linesCounted_issue (executed_ownerCommand (.setAbility _) ..)
  case setClass => exact linesCounted_issue (executed_ownerCommand (.setClass _) ..)
  case agreementRestart => exact linesCounted_issue (executed_ownerCommand .agreementRestart ..)
  case readCounters => exact linesCounted_issue (executed_doReadCounters ..)
  case tablePointer => exact linesCounted_issue (calm_doTablePointer ..).executed
  case tableWrite => exact linesCounted_issue (calm_doTableWrite ..).executed
  case tableRead => exact linesCounted_issue (calm_doTableRead ..).executed
  case tableHold => exact linesCounted_issue (calm_doTableHold ..).executed
  case tableEnd => exact linesCounted_issue (calm_doTableEnd ..).executed
  case uplinkBoundary l =>
    exact (calm_ite ((calm_modChan s l afterUplink).trans (calm_routeUplink l _ _)) (.refl s)).counted
  case frameStart l => exact (calm_ite (calm_beginPeriod l s) (.refl s)).counted
  case agreementTimeout l => exact (calm_ite (calm_enterPresumed l _ s) (.refl s)).counted
  case filteredOffHookEdge l => exact (calm_ite (calm_offHookEdge l s) (.refl s)).counted
  case filteredOnHookEdge l => exact (calm_ite (calm_modSup s l _) (.refl s)).counted
  case offHookQualified l => exact (calm_ite (calm_completeQualification l s) (.refl s)).counted
  case hangUp l =>
    split
    · exact (calm_doHangUp l _ s).counted
    · exact (Calm.refl s).counted
  case interdigitExpiry l => exact (calm_ite (calm_emitDigit l s) (.refl s)).counted
  case overcurrentStart l => exact Calm.counted (calm_modLine ⟨rfl, rfl, id⟩ id)
  case overcurrentEnd l => exact (calm_modSup s l _).counted
  case loopFault l => exact (calm_ite (calm_declareFault l s) (.refl s)).counted
  case faultRetryExpiry l => exact Calm.counted (calm_ite (calm_modLine ⟨rfl, rfl, id⟩ id) (.refl s))
  case feedRestored l => exact (calm_ite (calm_closeSeries l s) (.refl s)).counted
  case detectorBlockBoundary l a b => exact (calm_ite (calm_judgeReadings l _ _ s) (.refl s)).counted
  case stepTimerExpiry l =>
    exact (calm_ite ((calm_ite (calm_endRinging true l s) (.refl s)).trans (calm_advanceCadence l _)) (.refl s)).counted
  case startTimerExpiry => exact (calm_startTimer s).counted
  case keepWarmExpiry => exact (calm_ite (calm_modRing s _) (.refl s)).counted
  case cidDone l => exact (calm_ite (calm_completeTransmission l s) (.refl s)).counted
  case hookSample l b => exact (calm_modSup s l _).counted
  case lineSample rx1 rx2 => exact calm_lineSample.counted

/-! ### MESSAGE_SENT -/

/-- The queue after the message under way has been sent. -/
def afterMessage (q : PortLink) : PortLink :=
  { q with sending := .nothing, outbound := if q.sending = .head then q.outbound.drop 1 else q.outbound }

/-- Sending one message frees at most one reply place. -/
theorem replyCount_afterMessage (q : PortLink) : replyCount q ≤ replyCount (afterMessage q) + 1 := by
  unfold replyCount afterMessage
  dsimp only
  split
  · cases q.outbound with
    | nil => simp
    | cons m ms => simp only [List.countP_cons, List.drop_succ_cons, List.drop_zero]; split <;> omega
  · omega

theorem exec_messageSent (p : Port) (s : State) : exec (.messageSent p) s
    = .next (if (s.port p).transaction = .read
        then (drainFifo p Config.fifoSize (s.modPort p afterMessage)).modPort p lookAtQueue else s) := rfl

/-- After a sent message at most one command executes, where commands wait only behind 8 replies (R182). -/
theorem messageSent_linesCounted {p : Port} {s t : State} (hw : FifoWaits (s.port p))
    (h : exec (.messageSent p) s = .next t) : LinesCounted s t := by
  rw [exec_messageSent] at h
  cases h
  split
  · refine ((drainFifo_once p Config.fifoSize ?_).of_lines (line_modPort _ p _)).from_lines (line_modPort s p _)
    rw [port_modPort_same]
    by_cases hf : (s.port p).fifo = []
    · exact .inr hf
    · have h8 : replyCount (s.port p) = 8 := hw hf
      have := replyCount_afterMessage (s.port p)
      exact .inl (by omega)
  · exact (Calm.refl s).counted

theorem messageSent_bounded {p : Port} {s t : State} (h : exec (.messageSent p) s = .next t) (l : Line)
    (hb : LineBounded (s.line l)) : LineBounded (t.line l) := by
  rw [exec_messageSent] at h
  cases h
  split
  · rw [line_modPort]
    exact drainFifo_bounded p _ l _ (by rwa [line_modPort])
  · exact hb

end Sys2Proof.Machine
end

section
/-! SUPPORT. Settled: the invariants of owners and bounds, and the judgement of commands that need ownership. -/

namespace Sys2Proof.Machine

open Sys2Proof.Claim Sys2Proof.Safety

/-! ### Owners and bounds -/

/-- Settles O20: MESSAGE_SENT runs at most one waiting command, and every other row executes at most one. -/
theorem generationCountsOwners : Obligations.GenerationCountsOwners := by
  intro c s t hw hp h l
  by_cases hm : ∃ p, c = .messageSent p
  · obtain ⟨p, rfl⟩ := hm
    exact (messageSent_linesCounted (hw p) h).counted l
  · exact (exec_linesCounted hp (fun p hc => hm ⟨p, hc⟩) h).counted l

theorem reset_bounded (l : Line) : LineBounded (State.reset.line l) := by
  refine (lineBounded_iff _).mpr ⟨⟨?_, ?_, ?_⟩, ?_, ?_⟩
  · cases l <;> exact Nat.zero_le _
  · cases l <;> exact ⟨Nat.zero_le _, fun _ => rfl⟩
  · cases l <;> simp [DepthBounded, State.line, State.reset, LineState.reset, DepthTracker.reset, Config.depthTop]
  · cases l <;> exact fun _ => ⟨rfl, rfl, rfl, rfl, rfl, rfl, rfl, rfl⟩
  · cases l <;> exact fun h => absurd rfl h

/-- Every row keeps the bounds of both lines. -/
theorem exec_bounded {c : Instr} {s t : State} (hs : ∀ l, LineBounded (s.line l)) (h : exec c s = .next t) (l : Line) :
    LineBounded (t.line l) := by
  by_cases hp : c = .powerOnReset
  · subst hp; cases h
    exact reset_bounded l
  · by_cases hm : ∃ p, c = .messageSent p
    · obtain ⟨p, rfl⟩ := hm
      exact messageSent_bounded h l (hs l)
    · exact (exec_linesCounted hp (fun p hc => hm ⟨p, hc⟩) h).bounded l (hs l)

/-- Settles O23: every row keeps the bounds, so every step does. -/
theorem lineBoundsKept : Obligations.LineBoundsKept := fun _ _ hs h =>
  step_keeps (Inv := fun s => ∀ l, LineBounded (s.line l)) (fun s q hi l => by cases l <;> [exact hi .one; exact hi .two])
    (fun _ _ _ hi he => exec_bounded hi he) hs h

/-- Settles O2: each invariant is read off the state after reset. -/
theorem resetMeetsInvariants : Obligations.ResetMeetsInvariants := by
  refine ⟨fun p => ?_, ⟨List.nodup_nil, fun l => ?_⟩, fun l => ⟨reset_bounded l, fun i r hr => ?_, fun _ => ?_⟩⟩
  · cases p <;> exact ⟨⟨by decide, by decide, by decide⟩, fun h => absurd rfl h, nofun⟩
  · cases l <;> exact ⟨nofun, nofun, nofun, nofun, nofun, fun h => absurd rfl h⟩
  · have : (State.reset.line l).buf.slots[i] = none := by
      cases l <;> simp [State.line, State.reset, LineState.reset, PlayoutBuffer.reset, Slots.empty]
    rw [this] at hr; cases hr
  · cases l <;> exact ⟨nofun, nofun⟩

/-! ### Line fields and ownership -/

/-- Settles O13: every row that needs ownership is an `ownerCommand`, and CLAIM and the reports judge their line field
first. -/
theorem ownerCommandsRefused : Obligations.OwnerCommandsRefused := by
  refine ⟨fun c p tag line code s hrow hfree => ?_, fun p tag line s hfree h1 h2 =>
    ⟨fun owner g => ?_, fun h3 => ⟨?_, fun clear => ?_⟩⟩⟩
  · obtain ⟨hline, w, -, hdoes⟩ := ownerRow_does hrow
    have hexec := hdoes line s hfree
    rw [hline] at hexec
    refine ⟨fun h1 h2 h3 => ?_, fun l hl ho => ?_, fun h3 ho1 ho2 => ?_⟩
    · rw [hexec, ownerCommand_badLine p w s h1 h2 h3, answered_refuse]
    · rw [hexec, ownerCommand_notOwned p line l w s (hl ▸ lineOf_lineByte l) ho, answered_refuse]
    · rw [hexec, h3, ownerCommand_all_neither p w s ho1 ho2, answered_refuse]
  · refine congrArg _ ((issue_of_free hfree _ _).trans ?_)
    simp only [doClaim, lineOf_eq_none h1 h2]
    rfl
  · refine congrArg _ ((issue_of_free hfree _ _).trans ?_)
    rw [doReadLine, reportCommand_badLine _ _ s h1 h2 h3]
    rfl
  · refine congrArg _ ((issue_of_free hfree _ _).trans ?_)
    rw [doReadCounters, reportCommand_badLine _ _ s h1 h2 h3]
    rfl

/-- Work on one line leaves a port free to execute a command. -/
theorem LineAct.free {l : Line} {s u : State} {p : Port} (h : LineAct l s u) (hf : Free s p) : Free u p :=
  ⟨(h.ports p).1.trans hf.1, (h.ports p).2 ▸ hf.2⟩

/-- Settles O14: the single-line commands are the works that ALL composes, and the first leaves the second its owner and a
free port. -/
theorem ownerCommandsOnAll : Obligations.OwnerCommandsOnAll := by
  intro c p tag code s hrow hfree
  obtain ⟨hline, w, hw, hdoes⟩ := ownerRow_does hrow
  have hall := hdoes 3 s hfree
  rw [hline] at hall
  have hsingle {l : Line} {t : State} (ht : Free t p) (ho : (t.line l).owner = some p) :
      exec (withLine (lineByte l) c) t = .next (answered p tag code (w l t)) := by
    rw [hdoes _ t ht, ownerCommand_owned p _ l w t (lineOf_lineByte l) ho]
  refine ⟨fun h1 h2 => ?_, fun l hl ho => ?_⟩
  · have hact := hw.act h1
    have h2' : ((w .one s).state.line .two).owner = some p := hact.other.1.trans h2
    refine ⟨_, _, _, _, _, _, hsingle (l := .one) hfree h1, hsingle (l := .two) (hact.free hfree) h2', ?_⟩
    rw [hall, ownerCommand_all_both p w s h1 h2]
    rfl
  · refine ⟨_, _, _, hsingle hfree hl, ?_⟩
    rw [hall, ownerCommand_all_one p w s l hl ho]
    rfl

end Sys2Proof.Machine
end

section
/-! SUPPORT. Settled: power-on values, the Line Table's reads and CLAIM without an owner change, the timed events of the loop, the
end of a transmission and the line sample. -/

namespace Sys2Proof.Machine

open Sys2Proof.Claim Sys2Proof.Safety

/-! ### Power-on values (R22) -/

@[simp] theorem storedCount_empty : storedCount Slots.empty = 0 := by
  simp [storedCount, Slots.empty, Vector.toList_replicate]

theorem list_zero : ∀ k ∈ ChannelCounters.zero.list, k = 0 := by
  simp [ChannelCounters.list, ChannelCounters.zero]

/-- Only RESET_DONE is latched after a reset (R175). -/
theorem isLatched_resetDone (n : Notice) : isLatched Notice.resetDone.mask n = decide (n = .resetDone) := by
  by_cases h : n = .resetDone
  · subst h; decide
  · rw [decide_eq_false h, isLatched, Notice.mask, BitVec.getLsbD_twoPow]
    simp [(notice_bit_injective n .resetDone h).symm]

/-- Settles O3: the state after POWER_ON_RESET is the power-on value of every block. -/
theorem powerOnResetState : Obligations.PowerOnResetState := by
  intro s
  refine ⟨_, rfl, rfl, rfl, rfl, rfl, rfl, rfl, rfl, rfl, rfl, fun l => ?_, fun p => ?_⟩
  · have h : ({ State.reset with pending := s.pending } : State).line l = LineState.reset := by cases l <;> rfl
    rw [h]
    exact ⟨rfl, rfl, rfl, rfl, rfl, rfl, rfl, rfl, rfl, rfl, rfl, rfl, rfl, rfl, rfl, rfl, storedCount_empty, rfl, rfl, rfl,
      rfl, rfl, rfl, rfl, rfl, rfl, list_zero⟩
  · have h : ({ State.reset with pending := s.pending } : State).port p = PortLink.reset := by cases p <;> rfl
    rw [h]
    exact ⟨rfl, rfl, rfl, isLatched_resetDone, rfl, rfl, rfl, rfl, rfl, rfl, rfl, by decide⟩

/-! ### CLAIM without an owner change (R4, R5) -/

theorem ownerOf_ownerByte (o : Option Port) : ownerOf (ownerByte o) = some o := by
  rcases o with _ | _ | _ <;> rfl

theorem ownerOf_eq_none {b : Byte} (h : 2 < b.toNat) : ownerOf b = none := by
  have h0 : b ≠ 0 := by rintro rfl; simp at h
  have h1 : b ≠ 1 := by rintro rfl; simp at h
  have h2 : b ≠ 2 := by rintro rfl; simp at h
  rw [ownerOf, if_neg h0, if_neg h1, if_neg h2]

/-- CLAIM of a line with an owner value of the three. -/
theorem exec_claim {s : State} {p : Port} (hf : Free s p) (tag : Byte) (l : Line) (o : Option Port) (g : Word) :
    exec (.claim p tag (lineByte l) (ownerByte o) g) s = .next (answered p tag 0x10 (claimLine p l o g s)) := by
  refine congrArg _ ((issue_of_free hf _ _).trans ?_)
  simp only [doClaim, lineOf_lineByte, ownerOf_ownerByte]
  rfl

/-- Settles O17. -/
theorem claimHeldOrKept : Obligations.ClaimHeldOrKept := by
  refine fun p tag l g s hf => ⟨fun o ho => ?_, fun ho hg => ?_, fun owner h => ?_⟩
  · have hne : ¬ ((s.line l).owner = o ∧ (s.line l).generation = g) := fun ⟨h1, h2⟩ =>
      ho.elim (fun k => k h1.symm) (fun k => k h2.symm)
    rw [exec_claim hf, claimLine, if_neg hne]
    rfl
  · rw [exec_claim hf, claimLine, if_pos ⟨ho, hg.symm⟩, if_pos rfl, answered_accept, ownerBytes, ho, hg]
    rfl
  · refine congrArg _ ((issue_of_free hf _ _).trans ?_)
    simp only [doClaim, lineOf_lineByte, ownerOf_eq_none h]
    rfl

/-! ### READ_LINE and READ_EVENTS (R2, R16) -/

/-- READ_LINE of one line answers its record and leaves the state. -/
theorem exec_readLine {s : State} {p : Port} (hf : Free s p) (tag : Byte) (l : Line) :
    exec (.readLine p tag (lineByte l)) s = .next (replied p tag 0x13 .ok (lineRecord l s) s) := by
  refine congrArg _ ((issue_of_free hf _ _).trans ?_)
  simp only [doReadLine, reportCommand, lineOf_lineByte]
  rfl

theorem exec_readLine_all {s : State} {p : Port} (hf : Free s p) (tag : Byte) :
    exec (.readLine p tag 3) s = .next (replied p tag 0x13 .ok (lineRecord .one s ++ lineRecord .two s) s) :=
  congrArg _ ((issue_of_free hf _ _).trans rfl)

theorem ringStatusByte_ringStatus (s : State) (l : Line) :
    ringStatusByte (ringStatus s l) = if s.ring.converter = .driving l then 2 else if l ∈ s.ring.waitList then 1
      else if (s.line l).cad.kind = .ring then 3 else 0 := by
  unfold ringStatus
  by_cases h1 : s.ring.converter = .driving l
  · simp [h1, ringStatusByte]
  · by_cases h2 : l ∈ s.ring.waitList
    · simp [h1, h2, ringStatusByte]
    · by_cases h3 : (s.line l).cad.kind = .ring <;> simp [h1, h2, h3, ringCadence, ringStatusByte]

theorem boolByte_isSome {α : Type} (o : Option α) : boolByte o.isSome = if o = none then 0 else 1 := by
  cases o <;> rfl

/-- The bytes of a line's record, with its cadence bytes as they are. -/
theorem lineRecord_eq (l : Line) (s : State) : lineRecord l s =
    [ownerByte (s.line l).owner, hiByte (s.line l).generation, loByte (s.line l).generation,
      supervisionByte (s.line l).sup.state, feedByte (s.line l).sup.feed,
      if s.ring.converter = .driving l then 2 else if l ∈ s.ring.waitList then 1
        else if (s.line l).cad.kind = .ring then 3 else 0] ++ cadenceBytes (s.line l).cad ++
      [if (s.line l).cid.loaded = none then 0 else 1, channelByte (s.line l).buf.state,
      agreementByte (s.line l).chan.agreement, classByte (s.line l).chan.requestedClass,
      modeByte (s.line l).chan.mode, if (s.line l).buf.splicePending then 1 else 0,
      byteOf (s.line l).events.length] := by
  rw [← ringStatusByte_ringStatus, ← boolByte_isSome]
  rfl

/-- Settles O21. -/
theorem readLineReports : Obligations.ReadLineReports := by
  refine fun p tag s hf => ⟨fun l hk => ?_, fun l hk hd hw => ?_, ?_⟩
  · rw [exec_readLine hf, lineRecord_eq, cadenceBytes, if_neg hk]
    rfl
  · rw [exec_readLine hf, lineRecord_eq, cadenceBytes, if_pos hk, if_neg hd, if_neg hw, if_neg (by rw [hk]; nofun)]
    rfl
  · exact ⟨_, _, exec_readLine hf tag .one, exec_readLine hf tag .two, exec_readLine_all hf tag⟩

theorem eventFlagsByte_eq (e : EventRecord) : eventFlagsByte e
    = (if e.chatter then 1 else 0) + (if e.overrun then 2 else 0) + (if e.ringTrip then 4 else 0) := by
  unfold eventFlagsByte
  cases e.chatter <;> cases e.overrun <;> cases e.ringTrip <;> rfl

theorem eventKindByte_eq (k : EventKind) : eventKindByte k = kindNumber k := by cases k <;> rfl

theorem eventBytes_eq : eventBytes = recordBytes := by
  funext e
  simp only [eventBytes, eventFlagsByte_eq, eventKindByte_eq]
  rfl

/-- Settles O22. -/
theorem readEventsTakesEight : Obligations.ReadEventsTakesEight := by
  refine fun p tag l s hf ho => congrArg _ ((issue_of_free hf _ _).trans ?_)
  rw [doReadEvents, ownerCommand_owned p _ l _ s (lineOf_lineByte l) ho]
  simp only [eventsOnLine, accept, eventBytes_eq, List.length_take]
  rfl

/-! ### The interdigit timer and the restore of the feed (R109, R113) -/

/-- The line after its pending digit has been emitted. -/
def digitEmitted (n : Nat) (x : LineState) : LineState :=
  { x with
    sup := { x.sup with pulseCount := 0, interdigitTimer := none, chatter := false }
    events := recorded x.events (eventNow x (if n = 11 then .breakInvalid else .pulseDigit)
      (if 9 < n then 0 else byteOf n) 0 x.sup.chatter false) }

/-- A pending digit of 1 to 11 pulses is one event (R109). -/
theorem emitDigit_pending {l : Line} {s : State} {n : Nat} (hn : (s.line l).sup.pulseCount = n) (h0 : 0 < n)
    (h11 : n ≤ 11) : emitDigit l s = emit l (if n = 11 then .breakInvalid else .pulseDigit) (if 9 < n then 0 else byteOf n) 0 false
      (s.modSup l fun v => { v with pulseCount := 0, interdigitTimer := none }) := by
  unfold emitDigit
  simp only [hn, if_neg (show n ≠ 0 by omega)]
  by_cases h9 : n < 10
  · rw [if_pos h9, if_neg (show n ≠ 11 by omega), if_neg (show ¬ 9 < n by omega)]
  · rw [if_neg h9, if_pos (show 9 < n by omega)]
    by_cases h10 : n = 10
    · rw [if_pos h10, if_neg (show n ≠ 11 by omega)]
    · rw [if_neg h10, if_pos (show n = 11 by omega)]

theorem line_emitDigit_pending {l : Line} {s : State} {n : Nat} (hn : (s.line l).sup.pulseCount = n) (h0 : 0 < n)
    (h11 : n ≤ 11) : (emitDigit l s).line l = digitEmitted n (s.line l) := by
  rw [emitDigit_pending hn h0 h11, line_emit_same, line_modSup_same]
  rfl

theorem emitDigit_none {l : Line} {s : State} (hn : (s.line l).sup.pulseCount = 0) :
    emitDigit l s = s.modSup l fun v => { v with pulseCount := 0, interdigitTimer := none } := by
  simp only [emitDigit, hn, if_true]

theorem lineWork_emitDigit (l : Line) (s : State) : LineWork l s (emitDigit l s) := by
  have h := lineWork_modSup l (fun v => { v with pulseCount := 0, interdigitTimer := none }) s
  unfold emitDigit
  dsimp only
  split
  · exact h
  · split
    · exact h.trans (lineWork_emit ..)
    · split <;> exact h.trans (lineWork_emit ..)

theorem noticed_emitDigit {l : Line} {s : State} {n : Nat} (hn : (s.line l).sup.pulseCount = n) (h0 : 0 < n)
    (h11 : n ≤ 11) : Noticed l s (emitDigit l s) := by
  rw [emitDigit_pending hn h0 h11]
  exact (noticed_emit ..).mono (by simp) fun _ _ h => h

theorem timer_expired_iff (now : Word) (t : Timer) :
    Timer.expired now (some t) = true ↔ t.length ≤ (now - t.start).toNat := decide_eq_true_iff

theorem hasRun_iff (now t : Word) (n : Nat) : hasRun now (some t) n = true ↔ n ≤ (now - t).toNat := decide_eq_true_iff

/-- Settles O35. -/
theorem interdigitEmitsDigit : Obligations.InterdigitEmitsDigit := by
  intro l s t n ht hn h0 h11
  have hdue : interdigitDue (s.line l) = true ↔ t.length ≤ ((s.line l).ms - t.start).toNat := by
    rw [interdigitDue, ht, timer_expired_iff]
  have hwork := lineWork_emitDigit l s
  exact ⟨fun hlong => ⟨emitDigit l s, congrArg Host.Outcome.next (if_pos (hdue.mpr hlong)),
      line_emitDigit_pending hn h0 h11, noticed_emitDigit hn h0 h11, hwork.elsewhere, hwork.ports⟩,
    fun hshort => congrArg Host.Outcome.next (if_neg (mt hdue.mp (Nat.not_le.mpr hshort)))⟩

/-- Settles O37. -/
theorem faultRetryAndRestore : Obligations.FaultRetryAndRestore := by
  refine fun l s t => ⟨fun ht hlong => ?_, fun ht hlong => ?_⟩
  · have hdue : hasRun (s.line l).ms (s.line l).sup.retryTimer Config.retryMs = true := by
      rw [ht]; exact (hasRun_iff _ t _).mpr hlong
    exact congrArg Host.Outcome.next ((if_pos hdue).trans (modLine_congr rfl))
  · have hdue : hasRun (s.line l).ms (s.line l).sup.restoreCheck Config.restoreMs = true := by
      rw [ht]; exact (hasRun_iff _ t _).mpr hlong
    have hwork : LineWork l s (closeSeries l s) := (lineWork_modSup l _ s).trans (lineWork_emit ..)
    refine ⟨closeSeries l s, congrArg Host.Outcome.next (if_pos hdue), ?_, ?_, hwork.elsewhere, hwork.ports⟩
    · rw [closeSeries, line_emit_same, line_modSup_same]
      rfl
    · exact (noticed_emit ..).mono (by simp) fun _ _ h => h

/-! ### Breaks (R105 to R109) -/

theorem majority_of_offHook {h : HookSamples} (hm : offHookMajority h) : majority h = true := by
  simpa [majority, offHookMajority, or_assoc] using hm

/-- A return edge within flash_max classifies its break. -/
theorem exec_returnEdge {l : Line} {s : State} {r : BreakRecord} {b : Nat} (hs : (s.line l).sup.state = .inBreak)
    (hr : (s.line l).sup.breakRecord = some r) (hm : offHookMajority (s.line l).sup.samples)
    (hf : (s.line l).sup.filteredOffHook = false) (hb : b = ((s.line l).ms - r.start).toNat) (hle : b ≤ r.flashMax) :
    exec (.filteredOffHookEdge l) s
      = .next (classifyBreak l r b (s.modSup l fun v => { v with filteredOffHook := true })) := by
  have hdue : edgeDue true (s.line l).sup = true := by simp [edgeDue, majority_of_offHook hm, hf]
  refine congrArg Host.Outcome.next ((if_pos hdue).trans ?_)
  simp only [offHookEdge, line_modSup_same, hs, hr, returnEdge, elapsed, ← hb, if_pos hle]

/-- The supervisor of a line that is OFF_HOOK again after its break. -/
def breakEnded (v : Supervisor) : Supervisor := { v with filteredOffHook := true, state := .offHook, breakRecord := none }

theorem classifyBreak_invalid {l : Line} {s : State} {r : BreakRecord} {b : Nat} (hc : breakClass r b = .invalid) :
    classifyBreak l r b (s.modSup l fun v => { v with filteredOffHook := true })
      = emit l .breakInvalid 0 0 false
          (s.modSup l fun v => { breakEnded v with pulseCount := 0, interdigitTimer := none }) := by
  simp only [classifyBreak, hc, modSup_comp]
  rfl

/-- A flash reports the pending digit first (R105, R109). -/
theorem classifyBreak_flash {l : Line} {s : State} {r : BreakRecord} {b : Nat} (hc : breakClass r b = .flash) :
    classifyBreak l r b (s.modSup l fun v => { v with filteredOffHook := true })
      = emit l .flash 0 b false (emitDigit l (s.modSup l breakEnded)) := by
  simp only [classifyBreak, hc, modSup_comp]
  rfl

/-- What a return edge leaves of a break too long for a pulse: events, and a supervisor without break, count and mark. -/
structure BreakReported (l : Line) (s u : State) : Prop where
  line : ∃ events, u.line l = { s.line l with
    sup := { breakEnded (s.line l).sup with pulseCount := 0, interdigitTimer := none, chatter := false }
    events := events }
  noticed : Noticed l s u
  work : LineWork l s u

theorem breakReported_invalid (l : Line) (s : State) : BreakReported l s (emit l .breakInvalid 0 0 false
    (s.modSup l fun v => { breakEnded v with pulseCount := 0, interdigitTimer := none })) where
  line := ⟨_, by rw [line_emit_same, line_modSup_same]⟩
  noticed := (noticed_emit ..).mono (by simp) fun _ _ h => h
  work := (lineWork_modSup ..).trans (lineWork_emit ..)

/-- An emitted digit, or none, leaves no count and no interdigit timer. -/
theorem line_emitDigit (l : Line) (s : State) : ∃ events chatter, (emitDigit l s).line l = { s.line l with
    sup := { (s.line l).sup with pulseCount := 0, interdigitTimer := none, chatter := chatter }, events := events } := by
  unfold emitDigit
  dsimp only
  split
  · exact ⟨_, _, line_modSup_same ..⟩
  · split
    · exact ⟨_, _, by rw [line_emit_same, line_modSup_same]⟩
    · split <;> exact ⟨_, _, by rw [line_emit_same, line_modSup_same]⟩

theorem breakReported_flash (l : Line) (b : Nat) (s : State) :
    BreakReported l s (emit l .flash 0 b false (emitDigit l (s.modSup l breakEnded))) where
  line := by
    obtain ⟨events, chatter, h⟩ := line_emitDigit l (s.modSup l breakEnded)
    exact ⟨_, by rw [line_emit_same, h, line_modSup_same]⟩
  noticed := by
    obtain ⟨events, chatter, h⟩ := line_emitDigit l (s.modSup l breakEnded)
    exact (noticed_emit ..).mono (by rw [h, line_modSup_same]) fun _ _ h => h
  work := (lineWork_modSup ..).trans ((lineWork_emitDigit l _).trans (lineWork_emit ..))

theorem BreakReported.sup {l : Line} {s u : State} (h : BreakReported l s u) : (u.line l).sup
    = { breakEnded (s.line l).sup with pulseCount := 0, interdigitTimer := none, chatter := false } := by
  obtain ⟨events, hline⟩ := h.line
  rw [hline]

theorem BreakReported.kept {l : Line} {s u : State} (h : BreakReported l s u) :
    CallKept (s.line l) (u.line l) ∧ (u.line l).cad = (s.line l).cad ∧ (u.line l).cid = (s.line l).cid
      ∧ (u.line l).det = (s.line l).det ∧ TableKept (s.line l) (u.line l) ∧ Noticed l s u ∧ ElseSame l s u
      ∧ ∀ p, OnlyFlags (s.port p) (u.port p) := by
  obtain ⟨events, hline⟩ := h.line
  rw [hline]
  exact ⟨⟨rfl, rfl, rfl, rfl⟩, rfl, rfl, rfl, ⟨rfl, rfl, rfl, rfl, rfl, rfl, rfl⟩, h.noticed, h.work.elsewhere,
    h.work.ports⟩

/-- Settles O33: each length of the break selects its class, and each class has its effect. -/
theorem breakClassified : Obligations.BreakClassified := by
  intro l s r b hs hr hm hf hb hle
  have hexec := exec_returnEdge hs hr hm hf hb hle
  have hlt : b < 65536 := hb ▸ BitVec.isLt _
  refine ⟨fun h1 => ?_, fun h1 h2 => ?_, fun h1 h2 => ?_⟩
  · have hc : breakClass r b = .ignored := if_pos h1
    rw [hexec]
    simp only [classifyBreak, hc, modSup_comp]
    refine congrArg Host.Outcome.next (modSup_congr ?_)
    by_cases h0 : 0 < (s.line l).sup.pulseCount
    · simp only [h0, if_true, startInterdigit, line_modSup_same]
    · simp only [h0, if_false]
  · have hc : breakClass r b = .pulse := by rw [breakClass, if_neg (by omega), if_pos h2]
    rw [hexec]
    simp only [classifyBreak, hc, modSup_comp, line_modSup_same]
    rfl
  · by_cases h3 : b < r.flashMin
    · have hc : breakClass r b = .invalid := by rw [breakClass, if_neg (by omega), if_neg (by omega), if_pos h3]
      have hrep := breakReported_invalid l s
      refine ⟨_, hexec.trans (congrArg _ (classifyBreak_invalid hc)), hrep.sup, fun _ => ?_,
        fun h => absurd h3 (Nat.not_lt.mpr h), fun h => absurd h3 (Nat.not_lt.mpr h), hrep.kept⟩
      rw [line_emit_same, line_modSup_same]
      rfl
    · have hc : breakClass r b = .flash := by rw [breakClass, if_neg (by omega), if_neg (by omega), if_neg h3]
      have hrep := breakReported_flash l b s
      refine ⟨_, hexec.trans (congrArg _ (classifyBreak_flash hc)), hrep.sup, fun h => absurd h h3,
        fun _ h0 => ?_, fun _ n hn h0 h11 => ?_, hrep.kept⟩
      · rw [line_emit_same, emitDigit_none (by simpa [breakEnded] using h0), line_modSup_same, line_modSup_same,
          durationOf_elapsed hlt]
        rfl
      · rw [line_emit_same, line_emitDigit_pending (by simpa [breakEnded] using hn) h0 h11, line_modSup_same,
          durationOf_elapsed hlt]
        rfl

end Sys2Proof.Machine
end

section
/-! SUPPORT. Settled: the end of a transmission, the hang-up of a quiet line, and the line sample. -/

namespace Sys2Proof.Machine

open Sys2Proof.Claim Sys2Proof.Safety

/-! ### The end of a transmission (R141, R170) -/

theorem nextStep_eq {i j : Fin 64} (h : j.val = i.val + 1) : nextStep i = some j := by
  have hj := j.isLt
  rw [nextStep, dif_pos (by omega)]
  exact congrArg some (Fin.ext h.symm)

/-- A step that takes time begins with its timer. -/
theorem beginStep_timed {l : Line} {b : Option TonePair} {n : Nat} {i : Fin 64} {s : State}
    (h : stepEffect (s.line l) i s.steps[i] = .timed) : beginStep l b (n + 1) i s = beginTimed l i s.steps[i] s := by
  rw [beginStep]
  simp only [h]

theorem stepEffect_quiet (x : LineState) (i : Fin 64) {e : CadenceStep} (h : e.action = .quiet) :
    stepEffect x i e = .timed := by
  simp only [stepEffect, h]

/-- A cadence whose next step is QUIET goes on with that step's timer. -/
theorem advanceCadence_quiet {l : Line} {s : State} {i : Fin 64} {e : CadenceStep}
    (hi : i.val = (s.line l).cad.current.val + 1) (he : s.steps[i] = e) (hq : e.action = .quiet) :
    advanceCadence l s = beginTimed l i e (s.modCad l fun c => { c with timer := none }) := by
  subst he
  simp only [advanceCadence, nextStep_eq hi, stepFuel]
  rw [beginStep_timed (stepEffect_quiet _ i (by simpa using hq)), modCad_steps]

theorem line_beginTimed (l : Line) (i : Fin 64) (e : CadenceStep) (s : State) : (beginTimed l i e s).line l =
    { s.line l with cad := timedStep i e (s.line l).ms (s.line l).cad } := line_modLine_same ..

theorem lineWork_beginTimed (l : Line) (i : Fin 64) (e : CadenceStep) (s : State) : LineWork l s (beginTimed l i e s) :=
  lineWork_modLine ..

/-- Settles O47: the completed transmission leaves its event, and the cadence advances to the QUIET step. -/
theorem cidDoneHandsBack : Obligations.CidDoneHandsBack := by
  intro l s m i e hm hd hk hi he hq
  have hsent : allSent (s.line l).cid = true ↔ 10 * m.message.length ≤ (s.line l).cid.bitPos := by
    simp [allSent, hd, messageOf, hm]
  refine ⟨fun hlong => ?_, fun hshort => congrArg Host.Outcome.next (if_neg (mt hsent.mp (Nat.not_le.mpr hshort)))⟩
  have hstored : LineWork l s (storePlain l .cidDone 0 0 (s.modCid l dropTransmission)) :=
    (lineWork_modCid ..).trans (lineWork_storePlain ..)
  have hline : (storePlain l .cidDone 0 0 (s.modCid l dropTransmission)).line l = { s.line l with
      cid := dropTransmission (s.line l).cid
      events := recorded (s.line l).events (eventNow (s.line l) .cidDone 0 0 false false) } := by
    rw [line_storePlain_same, line_modCid_same]
    rfl
  have hdone : completeTransmission l s = beginTimed l i e
      ((storePlain l .cidDone 0 0 (s.modCid l dropTransmission)).modCad l fun c => { c with timer := none }) := by
    rw [← advanceCadence_quiet (by rw [hline]; exact hi) (by rw [← he, hstored.steps]) hq]
    exact if_pos (by rw [hline]; exact decide_eq_true hk)
  have hbegun := (lineWork_modCad l (fun c => { c with timer := none })
    (storePlain l .cidDone 0 0 (s.modCid l dropTransmission))).trans (lineWork_beginTimed l i e _)
  have hwork := hstored.trans hbegun
  have hnoticed := (noticed_storePlain l .cidDone 0 0 (s.modCid l dropTransmission)).mono (s' := s) (by simp) hbegun.stays
  refine ⟨_, congrArg Host.Outcome.next ((if_pos (hsent.mpr hlong)).trans hdone), ?_, hnoticed, hwork.elsewhere,
    hwork.ports⟩
  rw [line_beginTimed, line_modCad_same, hline]
  rfl

/-! ### A hang-up (R106) -/

/-- A tone cadence that is stopped ends, and no other cadence is touched. -/
theorem stopTone_eq (l : Line) (s : State) :
    stopTone l s = if (s.line l).cad.kind = .tone then s.modCad l endedEngine else s := by
  unfold stopTone endCadence
  by_cases ht : (s.line l).cad.kind = .tone
  · simp [toneCadence, ringCadence, ht]
  · simp [toneCadence, ht]

/-- The engine after a tone cadence, if any, has been stopped. -/
def toneStopped (c : CadenceEngine) : CadenceEngine := if c.kind = .tone then endedEngine c else c

theorem line_stopTone (l : Line) (s : State) :
    (stopTone l s).line l = { s.line l with cad := toneStopped (s.line l).cad } := by
  rw [stopTone_eq, toneStopped]
  split
  · rw [line_modCad_same]
  · rfl

theorem lineWork_stopTone (l : Line) (s : State) : LineWork l s (stopTone l s) := by
  rw [stopTone_eq]
  split
  · exact lineWork_modCad ..
  · exact .refl l s

theorem toneStopped_kind {c : CadenceEngine} (h : c.kind ≠ .ring) : (toneStopped c).kind = .none := by
  unfold toneStopped
  split
  · rfl
  next ht => cases hk : c.kind <;> simp_all

/-- A line quiet before its supervisor, cadence and events change is quiet after. -/
theorem quiet_of_det {x y : LineState} (h : Quiet x) (hd : y.det = x.det) (hb : y.buf = x.buf) : Quiet y :=
  ⟨by rw [hd]; exact h.1, fun hc => by rw [hd]; exact h.2 (by rwa [← hb])⟩

/-- The supervisor of a line hung up: no break, no pending digit. -/
def hungUp (v : Supervisor) : Supervisor :=
  { v with state := .onHook, breakRecord := none, pulseCount := 0, interdigitTimer := none }

/-- A hang-up up to its event; what follows is the stop of the tone detectors. -/
def hangUpStored (l : Line) (d : Nat) (s : State) : State :=
  emit l .onHook 0 d false (stopTone l (s.modSup l hungUp))

theorem doHangUp_eq (l : Line) (d : Nat) (s : State) : doHangUp l d s = followDetectors l (hangUpStored l d s) := rfl

theorem line_hangUpStored (l : Line) {d : Nat} (h : d < 65536) (s : State) : (hangUpStored l d s).line l = { s.line l with
    sup := { hungUp (s.line l).sup with chatter := false }
    cad := toneStopped (s.line l).cad
    events := recorded (s.line l).events
      (eventNow (s.line l) .onHook 0 (BitVec.ofNat 16 d) (s.line l).sup.chatter false) } := by
  rw [hangUpStored, line_emit_same, line_stopTone, line_modSup_same, durationOf_elapsed h]
  rfl

theorem lineWork_hangUpStored (l : Line) (d : Nat) (s : State) : LineWork l s (hangUpStored l d s) :=
  (lineWork_modSup l hungUp s).trans ((lineWork_stopTone l _).trans (lineWork_emit l .onHook 0 d false _))

theorem noticed_hangUpStored (l : Line) (d : Nat) (s : State) : Noticed l s (hangUpStored l d s) :=
  (noticed_emit l .onHook 0 d false _).mono (by rw [line_stopTone, line_modSup_same]) fun _ _ h => h

/-- A quiet line leaves no event of its detectors at a hang-up. -/
theorem doHangUp_quiet {l : Line} {d : Nat} {s : State} (h : d < 65536) (hq : Quiet (s.line l)) : doHangUp l d s
    = (hangUpStored l d s).modLine l fun x => { x with det := followedDetectors (hangUpStored l d s).tick x } := by
  rw [doHangUp_eq]
  exact followDetectors_of_silent (stopFindings_of_quiet
    (quiet_of_det hq (by rw [line_hangUpStored l h]) (by rw [line_hangUpStored l h])))

/-- A break that has lasted its flash_max hangs the line up. -/
theorem exec_hangUp {l : Line} {s : State} {r : BreakRecord} (hs : (s.line l).sup.state = .inBreak)
    (hr : (s.line l).sup.breakRecord = some r) (hlong : r.flashMax ≤ elapsed (s.line l).ms r.start) :
    exec (.hangUp l) s = .next (doHangUp l r.flashMax s) := by
  have hdue : overlongBreak (s.line l) = some r := by
    simp only [overlongBreak, hr]
    exact if_pos (by rw [decide_eq_true hs, decide_eq_true hlong]; rfl)
  exact congrArg Host.Outcome.next (by simp only [hdue])

/-- Settles O34: the line hangs up, and its silent detectors follow. -/
theorem hangUpAtFlashMax : Obligations.HangUpAtFlashMax := by
  intro l s r hs hr hlong hquiet hring
  have hlt : r.flashMax < 65536 := Nat.lt_of_le_of_lt hlong (BitVec.isLt _)
  have hdet := lineWork_modLine l
    (fun x => { x with det := followedDetectors (hangUpStored l r.flashMax s).tick x }) (hangUpStored l r.flashMax s)
  have hwork := (lineWork_hangUpStored l r.flashMax s).trans hdet
  refine ⟨_, (exec_hangUp hs hr hlong).trans (congrArg _ (doHangUp_quiet hlt hquiet)), ?_⟩
  rw [line_modLine_same, line_hangUpStored l hlt]
  exact ⟨rfl, toneStopped_kind hring, rfl, ⟨rfl, rfl, rfl, rfl⟩, rfl, ⟨rfl, rfl, rfl, rfl, rfl, rfl, rfl⟩,
    (noticed_hangUpStored l _ s).mono rfl hdet.stays, hwork.elsewhere, hwork.ports⟩

/-! ### The line sample (R13, R28, R59, R116, R147, R168) -/

theorem line_passMillisecond (s : State) (l : Line) :
    (passMillisecond s).line l = if s.tick % 8 = 0 then tickLine (s.line l) else s.line l := by
  unfold passMillisecond
  split <;> cases l <;> rfl

theorem line_passBlock (s : State) (l : Line) :
    (passBlock s).line l = if s.tick = 0 then endBlock (s.line l) else s.line l := by
  unfold passBlock
  split <;> cases l <;> rfl

theorem passMillisecond_tick (s : State) : (passMillisecond s).tick = s.tick := by
  unfold passMillisecond; split <;> rfl

/-- A line after a sample: the sample's own work, and what the new tick brings. -/
def lineSampled (tick : Nat) (rx : Sample) (x : LineState) : LineState :=
  { sampleLine rx x with
    ms := if tick % 8 = 0 then x.ms + 1 else x.ms
    blockDue := x.blockDue || decide (tick = 0)
    lineHeard := if tick = 0 then (x.lineHeard.push rx).close else x.lineHeard.push rx
    netHeard := if tick = 0 then (x.netHeard.push (playoutSample x.buf)).close else x.netHeard.push (playoutSample x.buf) }

theorem lineSampled_eq (tick : Nat) (rx : Sample) (x : LineState) :
    (if tick = 0 then endBlock (if tick % 8 = 0 then tickLine (sampleLine rx x) else sampleLine rx x)
      else (if tick % 8 = 0 then tickLine (sampleLine rx x) else sampleLine rx x)) = lineSampled tick rx x := by
  unfold lineSampled
  by_cases h0 : tick = 0
  · simp [h0, endBlock, tickLine, sampleLine]
  · by_cases h8 : tick % 8 = 0 <;> simp [h0, h8, tickLine, sampleLine]

/-- LINE_SAMPLE on a line. -/
theorem line_lineSample {rx1 rx2 rx : Sample} {s : State} (l : Line) (h1 : l = .one → rx = rx1)
    (h2 : l = .two → rx = rx2) : (passBlock (passMillisecond { s with
      line1 := sampleLine rx1 s.line1, line2 := sampleLine rx2 s.line2, ring := laterMoment s.ring
      tick := (s.tick + 1) % 40 })).line l = lineSampled ((s.tick + 1) % 40) rx (s.line l) := by
  rw [line_passBlock, passMillisecond_tick, line_passMillisecond, ← lineSampled_eq]
  cases l with
  | one => rw [h1 rfl]; rfl
  | two => rw [h2 rfl]; rfl

/-! The transmitter's part -/

theorem fskSounds_idle {c : CallerIdTx} (h : c.state = .idle) : fskSounds c = false := by
  simp [fskSounds, inTransmission, h]

theorem fskSounds_done {c : CallerIdTx} {m : LoadedCallerId} (hm : c.loaded = some m) (hd : c.state = .data)
    (hb : 10 * m.message.length ≤ c.bitPos) : fskSounds c = false := by
  simp [fskSounds, allSent, messageOf, hm, hd, hb]

theorem fskSounds_of_stillSends {c : CallerIdTx} {m : LoadedCallerId} (h : StillSends c m) : fskSounds c = true := by
  obtain ⟨hm, hs | hs | ⟨hs, hb⟩⟩ := h
  · simp [fskSounds, inTransmission, allSent, hs]
  · simp [fskSounds, inTransmission, allSent, hs]
  · simp [fskSounds, inTransmission, allSent, messageOf, hm, hs, hb]

/-- The bit sent now is the one that the claims name. -/
theorem currentBit_of_sends {c : CallerIdTx} {m : LoadedCallerId} {b : Bool} (h : StillSends c m) (hb : SendsBit c m b) :
    currentBit c = b := by
  obtain ⟨hm, hs⟩ := h
  obtain ⟨h1, h2, h3⟩ := hb
  unfold currentBit
  obtain hs | hs | ⟨hs, -⟩ := hs
  · simp [hs, h1 hs]
  · simp [hs, h2 hs]
  · simp only [hs, h3 hs, messageOf, hm, dataBit]

@[simp] theorem startBit_phase (c : CallerIdTx) : (startBit c).phase = c.phase := by
  unfold startBit; split <;> (try split) <;> rfl

theorem currentBit_startBit (c : CallerIdTx) : currentBit (startBit c) = currentBit c := by
  unfold startBit; split <;> (try split) <;> rfl

theorem nextBit_phase (c : CallerIdTx) : (nextBit c).phase = c.phase := by
  unfold nextBit; split <;> (try split) <;> rfl

/-- The phase runs on by the frequency of the bit sent (R167). -/
theorem fskAdvance_phase (c : CallerIdTx) :
    (fskAdvance c).phase = (c.phase + bitFrequency (currentBit c)) % 8000 := by
  unfold fskAdvance
  dsimp only
  split <;> simp only [nextBit_phase, startBit_phase, currentBit_startBit]

/-! The tone's part -/

theorem soundingPair_some {c : CadenceEngine} {h : StepInHand} {q : TonePair} (hk : c.kind = .tone) (hh : c.inHand = some h)
    (hq : h.pair = some q) : soundingPair c = some q := by
  simp [soundingPair, hk, pairInHand, hh, hq]

theorem soundingPair_none {c : CadenceEngine} (h : ∀ h, c.inHand = some h → h.pair = none) : soundingPair c = none := by
  unfold soundingPair pairInHand
  split
  · cases hh : c.inHand with
    | none => rfl
    | some k => simpa using h k hh
  · rfl

theorem codecSample_tone {x : LineState} (h : x.cad.kind = .tone) : codecSample x = toneOutput x.cad := if_pos h

theorem codecSample_fsk {x : LineState} (h : x.cad.kind ≠ .tone) (hf : fskSounds x.cid = true) :
    codecSample x = fskOutput x.cid := (if_neg h).trans (if_pos hf)

theorem codecSample_playout {x : LineState} (h : x.cad.kind ≠ .tone) (hf : fskSounds x.cid = false) :
    codecSample x = playoutSample x.buf := (if_neg h).trans (if_neg (by rw [hf]; nofun))

theorem gatherSample_closed {rx : Sample} {x : LineState} (h : x.buf.state = .closed) : gatherSample rx x = x.chan :=
  if_pos h

theorem gatherSample_draining {rx : Sample} {x : LineState} (h : x.buf.state = .draining) :
    gatherSample rx x = { x.chan with sampleCounter := x.chan.sampleCounter + 1 } := by
  simp [gatherSample, h, ChannelState.isOpen]

theorem gatherSample_open {rx : Sample} {x : LineState} (h : x.buf.state.isOpen = true) :
    gatherSample rx x = { x.chan with
      sampleCounter := x.chan.sampleCounter + 1
      gathered := x.chan.gathered ++ [{ sample := rx, digit := digitActive x.det.dtmf }] } := by
  simp [gatherSample, isOpen_not_closed h, h]

theorem sampleLine_cid_silent (rx : Sample) {x : LineState} (h : fskSounds x.cid = false) :
    (sampleLine rx x).cid = x.cid := if_neg (by rw [h]; nofun)

theorem sampleLine_cid_sounds (rx : Sample) {x : LineState} (h : fskSounds x.cid = true) :
    (sampleLine rx x).cid = fskAdvance x.cid := if_pos h

/-- Outside the lines a sample moves the tick, and at a millisecond the converter's timers (R13, R150, R159). -/
theorem lineSample_elsewhere (x1 x2 : LineState) (s : State) (k : Nat) :
    let t := passBlock (passMillisecond { s with line1 := x1, line2 := x2, ring := laterMoment s.ring, tick := k })
    t.portA = s.portA ∧ t.portB = s.portB ∧ t.steps = s.steps ∧ t.pairs = s.pairs ∧ t.pending = s.pending ∧ t.tick = k
      ∧ t.ring = (if k % 8 = 0 then tickRing (laterMoment s.ring) else laterMoment s.ring) := by
  unfold passBlock passMillisecond
  by_cases h8 : k % 8 = 0
  · by_cases h0 : k = 0 <;> simp [h8, h0]
  · have h0 : k ≠ 0 := by rintro rfl; exact h8 rfl
    simp [h8, h0]

/-- Settles O60. -/
theorem lineSampleDelivers : Obligations.LineSampleDelivers := by
  intro rx1 rx2 s
  obtain ⟨hpa, hpb, hst, hpr, hpe, htk, hrg⟩ :=
    lineSample_elsewhere (sampleLine rx1 s.line1) (sampleLine rx2 s.line2) s ((s.tick + 1) % 40)
  refine ⟨_, rfl, hpa, hpb, hst, hpr, hpe, htk, hrg, fun l rx play h1 h2 hplay => ?_⟩
  have hpl : play = playoutSample (s.line l).buf := hplay.trans (by
    unfold playoutSample; cases (s.line l).buf.period.rest <;> rfl)
  rw [line_lineSample l h1 h2, hpl]
  refine ⟨rfl, rfl, rfl, rfl, rfl, rfl, rfl, rfl, rfl, fun h0 => ⟨if_neg h0, if_neg h0⟩, fun h0 => ⟨if_pos h0, if_pos h0⟩,
    rfl, gatherSample_closed, gatherSample_draining, gatherSample_open, fun hk => ⟨fun h q hh hq => ?_, fun hn => ?_⟩,
    fun hk => ?_, fun hi => ?_, fun m hm bit hb => ?_, fun m hm hd hb => ?_⟩
  · have hp := soundingPair_some hk hh hq
    exact ⟨(codecSample_tone hk).trans (by simp only [toneOutput, hp]; rfl), by
      simp only [lineSampled, sampleLine, toneAdvance, hp]⟩
  · have hp := soundingPair_none hn
    exact ⟨(codecSample_tone hk).trans (by simp only [toneOutput, hp]), by
      simp only [lineSampled, sampleLine, toneAdvance, hp]⟩
  · have hp : soundingPair (s.line l).cad = none := if_neg hk
    simp only [lineSampled, sampleLine, toneAdvance, hp]
  · have hf := fskSounds_idle hi
    exact ⟨sampleLine_cid_silent rx hf, fun hk => codecSample_playout hk hf⟩
  · have hf := fskSounds_of_stillSends hm
    have hbit := currentBit_of_sends hm hb
    have hcid : (lineSampled ((s.tick + 1) % 40) rx (s.line l)).cid = fskAdvance (s.line l).cid :=
      sampleLine_cid_sounds rx hf
    refine ⟨hcid, ?_, fun hk => (codecSample_fsk hk hf).trans ?_⟩
    · rw [hcid, fskAdvance_phase, hbit]
      rfl
    · rw [fskOutput, hbit]
      rfl
  · have hf := fskSounds_done hm hd hb
    exact ⟨sampleLine_cid_silent rx hf, fun hk => codecSample_playout hk hf⟩

end Sys2Proof.Machine
end

section
/-! SUPPORT. The end of a line's ringing, the end and the stop of its ring cadence, and the change of its feed: what each does to
the converter, to the line and to the other line (R151 to R162). -/

namespace Sys2Proof.Machine

open Sys2Proof.Claim Sys2Proof.Safety

/-! ### Work that leaves table, clock and ports -/

/-- From `s` to `u` the table, the clock and the ports but for notice flags are the same, and no flag is cleared. -/
structure PartWork (s u : State) : Prop where
  rest : RestSame s u
  ports : ∀ p, OnlyFlags (s.port p) (u.port p)
  stays : FlagsStay s u

theorem PartWork.refl (s : State) : PartWork s s := ⟨⟨rfl, rfl, rfl, rfl⟩, fun _ => .refl _, fun _ _ h => h⟩

theorem PartWork.trans {s t u : State} (h : PartWork s t) (k : PartWork t u) : PartWork s u := by
  obtain ⟨h1, h2, h3, h4⟩ := h.rest
  obtain ⟨k1, k2, k3, k4⟩ := k.rest
  exact ⟨⟨k1.trans h1, k2.trans h2, k3.trans h3, k4.trans h4⟩, fun p => (h.ports p).trans (k.ports p), h.stays.trans k.stays⟩

theorem LineWork.part {l : Line} {s u : State} (h : LineWork l s u) : PartWork s u := ⟨h.rest, h.ports, h.stays⟩

/-- From `s` to `u` only lines and the converter differ. -/
structure RingWork (s u : State) : Prop where
  rest : RestSame s u
  portA : u.portA = s.portA
  portB : u.portB = s.portB

theorem RingWork.refl (s : State) : RingWork s s := ⟨⟨rfl, rfl, rfl, rfl⟩, rfl, rfl⟩

theorem RingWork.trans {s t u : State} (h : RingWork s t) (k : RingWork t u) : RingWork s u := by
  obtain ⟨⟨h1, h2, h3, h4⟩, h5, h6⟩ := h
  obtain ⟨⟨k1, k2, k3, k4⟩, k5, k6⟩ := k
  exact ⟨⟨k1.trans h1, k2.trans h2, k3.trans h3, k4.trans h4⟩, k5.trans h5, k6.trans h6⟩

theorem RingWork.port {s u : State} (h : RingWork s u) (p : Port) : u.port p = s.port p := by
  cases p
  · exact h.portA
  · exact h.portB

theorem RingWork.part {s u : State} (h : RingWork s u) : PartWork s u where
  rest := h.rest
  ports p := by rw [h.port p]; exact .refl _
  stays p n hn := by rwa [h.port p]

theorem ringWork_modRing (s : State) (f : RingArbiter → RingArbiter) : RingWork s (s.modRing f) :=
  ⟨⟨rfl, rfl, rfl, rfl⟩, rfl, rfl⟩

theorem ringWork_modLine (s : State) (l : Line) (f : LineState → LineState) : RingWork s (s.modLine l f) :=
  ⟨⟨by simp, by simp, by simp, by simp⟩, by simp, by simp⟩

theorem ringWork_judgeLastEnd (s : State) : RingWork s (judgeLastEnd s) := by
  unfold judgeLastEnd
  split
  · exact (ringWork_modRing s _).trans (ringWork_modRing _ _)
  · exact .refl s

theorem ringWork_grantHead (s : State) : RingWork s (grantHead s) := by
  unfold grantHead
  split
  · exact (ringWork_modRing s _).trans (ringWork_modLine _ _ _)
  · exact .refl s

theorem ringWork_endRinging (g : Bool) (l : Line) (s : State) : RingWork s (endRinging g l s) := by
  unfold endRinging
  split
  · dsimp only
    split
    · exact (ringWork_modRing s _).trans (ringWork_grantHead _)
    · exact ringWork_modRing s _
  · exact ringWork_modRing s _

theorem ringWork_endCadence (l : Line) (s : State) : RingWork s (endCadence l s) := by
  unfold endCadence
  dsimp only
  split
  · exact (ringWork_modLine s l _).trans (ringWork_judgeLastEnd _)
  · exact ringWork_modLine s l _

theorem ringWork_feedChanged (s : State) : RingWork s (feedChanged s) := by
  rcases feedChanged_cases s with ⟨-, h⟩ | ⟨-, -, -, h⟩ | ⟨-, h⟩ <;> rw [h]
  · exact ringWork_modRing s _
  · exact ringWork_modRing s _
  · exact .refl s

/-! ### The end of a line's ringing (R151, R152, R154 to R157) -/

/-- The converter after the burst of line `l`, or its waiting entry, has ended with grants allowed. -/
def afterRinging (l : Line) (a : RingArbiter) : RingArbiter :=
  if a.converter = .driving l then
    match a.waitList with
    | k :: rest => { a with converter := .driving k, waitList := rest, keepWarm := none }
    | [] => { a with converter := .ready }
  else { a with waitList := a.waitList.filter fun m => decide (m ≠ l) }

theorem endRinging_driving_nobody {l : Line} {s : State} (hd : s.ring.converter = .driving l) (hw : s.ring.waitList = []) :
    endRinging true l s = s.modRing fun a => { a with converter := .ready } := by
  simp [endRinging, hd, grantHead, hw]

/-- The head of the wait list is granted when the burst ends, its step timer starting. -/
theorem endRinging_driving_grants {l k : Line} {ks : List Line} {s : State} (hd : s.ring.converter = .driving l)
    (hw : s.ring.waitList = k :: ks) : endRinging true l s
      = (s.modRing fun a => { a with converter := .driving k, waitList := ks, keepWarm := none }).modLine k granted := by
  simp only [endRinging, hd, if_true, grantHead, modRing_ring, hw]
  rfl

theorem endRinging_waiting {g : Bool} {l : Line} {s : State} (hd : s.ring.converter ≠ .driving l) :
    endRinging g l s = s.modRing fun a => { a with waitList := a.waitList.filter fun m => decide (m ≠ l) } := if_neg hd

theorem endRinging_ring (l : Line) (s : State) : (endRinging true l s).ring = afterRinging l s.ring := by
  by_cases hd : s.ring.converter = .driving l
  · rw [afterRinging, if_pos hd]
    cases hw : s.ring.waitList with
    | nil => rw [endRinging_driving_nobody hd hw, modRing_ring, hw]
    | cons k ks => rw [endRinging_driving_grants hd hw, modLine_ring]; rfl
  · rw [endRinging_waiting hd, afterRinging, if_neg hd]; rfl

/-- The end of ringing changes no more of any line than its step timer. -/
theorem line_endRinging (g : Bool) (l m : Line) (s : State) :
    ∃ t, (endRinging g l s).line m = { s.line m with cad := { (s.line m).cad with timer := t } } := by
  unfold endRinging
  split
  · dsimp only
    split
    · unfold grantHead
      split
      · rw [line_modLine]
        split
        · exact ⟨_, by rw [line_modRing, line_modRing]⟩
        · exact ⟨_, by rw [line_modRing, line_modRing]⟩
      · exact ⟨_, line_modRing ..⟩
    · exact ⟨_, line_modRing ..⟩
  · exact ⟨_, line_modRing ..⟩

/-- Where the driven line does not wait, the other line is granted if it waits, and is else the same. -/
theorem line_endRinging_other {l : Line} {s : State} (h : ListSound l s) :
    (endRinging true l s).line (otherLine l) = otherAfterStop l s := by
  unfold otherAfterStop
  by_cases hd : s.ring.converter = .driving l
  · cases hw : s.ring.waitList with
    | nil => rw [endRinging_driving_nobody hd hw, line_modRing, if_neg (by simp)]
    | cons k ks =>
      have hk : k = otherLine l := eq_otherLine fun e => h hd (by rw [hw, e]; exact List.mem_cons_self)
      rw [endRinging_driving_grants hd hw, hk, line_modLine_same, line_modRing, if_pos ⟨hd, by simp⟩]
  · rw [endRinging_waiting hd, line_modRing, if_neg fun h => hd h.1]

/-- After the end of its ringing a line is neither driven nor waiting. -/
theorem afterRinging_leaves {l : Line} {s : State} (h : ListSound l s) :
    (afterRinging l s.ring).converter ≠ .driving l ∧ l ∉ (afterRinging l s.ring).waitList := by
  unfold afterRinging
  by_cases hd : s.ring.converter = .driving l
  · rw [if_pos hd]
    have hl := h hd
    cases hw : s.ring.waitList with
    | nil => exact ⟨nofun, by simp⟩
    | cons k ks =>
      rw [hw, List.mem_cons, not_or] at hl
      exact ⟨fun e => hl.1 (by injection e with e; exact e.symm), hl.2⟩
  · rw [if_neg hd]
    exact ⟨hd, by simp⟩

/-! ### The end of a ring cadence (R144, R159) -/

/-- The judgement at the end of a ring cadence: with nobody left in ringing and the converter READY, by the feeds (R159). -/
def judgedAtEnd (othersRing full : Bool) (a : RingArbiter) : RingArbiter :=
  if a.converter = .ready ∧ a.waitList = [] ∧ othersRing = false then judged full a else a

/-- The claims' converter after a stop is the end of the ringing and then the judgement. -/
theorem ringStopped_eq (l : Line) (m : FeedMode) (s : State) : ringStopped l m s
    = judgedAtEnd (decide ((s.line (otherLine l)).cad.kind = .ring))
        (fullFeed m || fullFeed (s.line (otherLine l)).sup.feed) (afterRinging l s.ring) := by
  unfold ringStopped judgedAtEnd afterRinging
  dsimp only
  by_cases hd : s.ring.converter = .driving l
  · cases hw : s.ring.waitList with
    | nil => cases decide ((s.line (otherLine l)).cad.kind = .ring) <;> simp [hd]
    | cons k ks => simp [hd]
  · simp only [hd, if_false]

theorem warmFeed_eq (l : Line) (s : State) :
    warmFeed s = (fullFeed (s.line l).sup.feed || fullFeed (s.line (otherLine l)).sup.feed) := by
  cases l
  · rfl
  · exact Bool.or_comm _ _

theorem nobodyRings_eq (l : Line) (s : State) : nobodyRings s = true
    ↔ s.ring.waitList = [] ∧ (s.line l).cad.kind ≠ .ring ∧ (s.line (otherLine l)).cad.kind ≠ .ring := by
  cases l <;> simp [nobodyRings, ringCadence, State.line, otherLine] <;> tauto

theorem judgeLastEnd_ring {l : Line} {s : State} (h : (s.line l).cad.kind ≠ .ring) : (judgeLastEnd s).ring
    = judgedAtEnd (decide ((s.line (otherLine l)).cad.kind = .ring))
        (fullFeed (s.line l).sup.feed || fullFeed (s.line (otherLine l)).sup.feed) s.ring := by
  have hdue : judgementDue s = true ↔ s.ring.converter = .ready ∧ s.ring.waitList = []
      ∧ decide ((s.line (otherLine l)).cad.kind = .ring) = false := by
    rw [judgementDue, Bool.and_eq_true, decide_eq_true_iff, nobodyRings_eq l, decide_eq_false_iff_not]
    tauto
  unfold judgeLastEnd judgedAtEnd
  by_cases hd : judgementDue s = true
  · rw [if_pos hd, if_pos (hdue.mp hd), ← warmFeed_eq]
    simp only [judgeFeeds, modRing_ring, judged]
    split <;> rfl
  · rw [if_neg hd, if_neg (mt hdue.mpr hd)]

theorem line_endCadence_same (l : Line) (s : State) :
    (endCadence l s).line l = { s.line l with cad := endedEngine (s.line l).cad } := by
  unfold endCadence
  dsimp only
  split
  · rw [line_judgeLastEnd, line_modCad_same]
  · rw [line_modCad_same]

theorem line_endCadence_other (l : Line) (s : State) : (endCadence l s).line (otherLine l) = s.line (otherLine l) := by
  unfold endCadence
  dsimp only
  split
  · rw [line_judgeLastEnd, line_modCad_other _ _ _ _ (otherLine_ne l)]
  · rw [line_modCad_other _ _ _ _ (otherLine_ne l)]

theorem endCadence_ring {l : Line} {s : State} (h : (s.line l).cad.kind = .ring) : (endCadence l s).ring
    = judgedAtEnd (decide ((s.line (otherLine l)).cad.kind = .ring))
        (fullFeed (s.line l).sup.feed || fullFeed (s.line (otherLine l)).sup.feed) s.ring := by
  have hr : ringCadence (s.line l) = true := decide_eq_true h
  have hk : ((s.modCad l endedEngine).line l).cad.kind ≠ .ring := by rw [line_modCad_same]; nofun
  simp only [endCadence, hr, if_true]
  rw [judgeLastEnd_ring hk, line_modCad_same, line_modCad_other _ _ _ _ (otherLine_ne l), modCad_ring]

/-- The ring cadence of line `l` ends in a state that the end of its ringing, and no more of feeds and cadences, has led to. -/
theorem endCadence_ringStopped {l : Line} {s t : State} (hr : (s.line l).cad.kind = .ring)
    (ht : t.ring = (endRinging true l s).ring) (hk : ∀ m, (t.line m).cad.kind = (s.line m).cad.kind)
    (hf : ∀ m, (t.line m).sup.feed = (s.line m).sup.feed) :
    (endCadence l t).ring = ringStopped l (s.line l).sup.feed s := by
  rw [endCadence_ring ((hk l).trans hr), ringStopped_eq, ht, endRinging_ring, hk, hf, hf]

theorem judgedAtEnd_cases (o full : Bool) (a : RingArbiter) :
    judgedAtEnd o full a = a ∨ judgedAtEnd o full a = judged full a := by
  unfold judgedAtEnd
  split
  · exact .inr rfl
  · exact .inl rfl

theorem judged_leaves (full : Bool) (a : RingArbiter) (l : Line) :
    (judged full a).converter ≠ .driving l ∧ (judged full a).waitList = a.waitList := by
  unfold judged
  split <;> exact ⟨nofun, rfl⟩

/-- A line whose ring cadence has stopped is neither driven nor waiting. -/
theorem ringStopped_leaves {l : Line} {s : State} (h : ListSound l s) (m : FeedMode) :
    (ringStopped l m s).converter ≠ .driving l ∧ l ∉ (ringStopped l m s).waitList := by
  have ha := afterRinging_leaves h
  rw [ringStopped_eq]
  obtain he | he := judgedAtEnd_cases _ _ (afterRinging l s.ring)
  · rw [he]; exact ha
  · rw [he]
    obtain ⟨h1, h2⟩ := judged_leaves _ (afterRinging l s.ring) l
    exact ⟨h1, by rw [h2]; exact ha.2⟩

/-! ### The transmitter at a stop (R171, R172) -/

theorem lineWork_stopCallerId (l : Line) (s : State) : LineWork l s (stopCallerId l s) := by
  unfold stopCallerId
  dsimp only
  split
  · exact (lineWork_modCid ..).trans (lineWork_storePlain ..)
  · exact lineWork_modCid ..

theorem line_stopCallerId (l : Line) (s : State) : (stopCallerId l s).line l =
    { s.line l with cid := dropTransmission (s.line l).cid, events := afterAbort (s.line l) } := by
  unfold stopCallerId afterAbort inTransmission
  by_cases hi : (s.line l).cid.state = .idle
  · simp [hi]
  · simp only [ne_eq, hi, not_false_eq_true, decide_true, if_true, if_false, line_storePlain_same, line_modCid_same]
    rfl

/-! ### A change of the feed mode (R98, R99, R159, R162) -/

theorem feedChanged_ring (l : Line) (m : FeedMode) (s : State) :
    (feedChanged (s.modSup l fun v => { v with feed := m })).ring = feedJudged l m s := by
  generalize ht : (s.modSup l fun v => { v with feed := m }) = t
  have hring : t.ring = s.ring := by rw [← ht, modSup_ring]
  have hl : t.line l = { s.line l with sup := { (s.line l).sup with feed := m } } := by rw [← ht, line_modSup_same]
  have ho : t.line (otherLine l) = s.line (otherLine l) := by rw [← ht, line_modSup_other _ _ _ _ (otherLine_ne l)]
  have hwarm : warmFeed t = (fullFeed m || fullFeed (s.line (otherLine l)).sup.feed) := by rw [warmFeed_eq l, hl, ho]
  have hstands : judgementStands t = true ↔ s.ring.judgedNow = true
      ∧ (s.ring.converter = .ready ∨ s.ring.converter = .off) ∧ s.ring.waitList = []
      ∧ (s.line l).cad.kind ≠ .ring ∧ (s.line (otherLine l)).cad.kind ≠ .ring := by
    rw [judgementStands, Bool.and_eq_true, Bool.and_eq_true, Bool.or_eq_true, decide_eq_true_iff, decide_eq_true_iff,
      nobodyRings_eq l, hl, ho, hring]
    tauto
  unfold feedChanged feedJudged
  dsimp only
  by_cases hs : judgementStands t = true
  · have hj := hstands.mp hs
    rw [if_pos hs, if_pos hj, ← hwarm]
    simp only [judgeFeeds, modRing_ring, hring, judged, hj.1]
  · rw [if_neg hs, if_neg (mt hstands.mpr hs), ← hwarm]
    by_cases hk : s.ring.keepWarm = none
    · simp [hring, hk]
    · have hsome : s.ring.keepWarm.isSome = true := Option.isSome_iff_ne_none.mpr hk
      by_cases hw : warmFeed t = false <;> simp [hring, hk, hsome, hw]

theorem feedJudged_leaves {l : Line} {s : State} (m : FeedMode) (h : s.ring.converter ≠ .driving l ∧ l ∉ s.ring.waitList) :
    (feedJudged l m s).converter ≠ .driving l ∧ l ∉ (feedJudged l m s).waitList := by
  unfold feedJudged
  dsimp only
  split
  · obtain ⟨h1, h2⟩ := judged_leaves (fullFeed m || fullFeed (s.line (otherLine l)).sup.feed) s.ring l
    exact ⟨h1, by rw [h2]; exact h.2⟩
  · split
    · exact ⟨nofun, h.2⟩
    · exact h

/-- The feed mode after a line has woken (R99). -/
def wokenFeed (m : FeedMode) : FeedMode := if m = .standby then .normal else m

theorem wake_eq (l : Line) (s : State) : wake l s = if (s.line l).sup.feed = .standby
    then feedChanged (s.modSup l fun v => { v with feed := .normal }) else s := by
  unfold wake setFeedMode
  by_cases h : (s.line l).sup.feed = .standby <;> simp [h]

theorem line_wake_same (l : Line) (s : State) : (wake l s).line l =
    { s.line l with sup := { (s.line l).sup with feed := wokenFeed (s.line l).sup.feed } } := by
  rw [wake_eq, wokenFeed]
  split
  · rw [line_feedChanged, line_modSup_same]
  · rfl

theorem line_wake_other (l : Line) (s : State) : (wake l s).line (otherLine l) = s.line (otherLine l) := by
  rw [wake_eq]
  split
  · rw [line_feedChanged, line_modSup_other _ _ _ _ (otherLine_ne l)]
  · rfl

theorem wake_ring (l : Line) (s : State) :
    (wake l s).ring = if (s.line l).sup.feed = .standby then feedJudged l .normal s else s.ring := by
  rw [wake_eq]
  split
  · exact feedChanged_ring l .normal s
  · rfl

theorem ringWork_wake (l : Line) (s : State) : RingWork s (wake l s) := by
  rw [wake_eq]
  split
  · exact (ringWork_modLine s l _).trans (ringWork_feedChanged _)
  · exact .refl s

end Sys2Proof.Machine
end

section
/-! SUPPORT. Settled: LINE_RESET and the qualified off-hook with its ring trip. -/

namespace Sys2Proof.Machine

open Sys2Proof.Claim Sys2Proof.Safety

/-! ### LINE_RESET (R19) -/

theorem ringWork_endRingCadence (g : Bool) (l : Line) (s : State) : RingWork s (endRingCadence g l s) := by
  unfold endRingCadence
  split
  · exact (ringWork_endRinging g l s).trans (ringWork_endCadence l _)
  · exact .refl s

theorem line_endRingCadence_same (g : Bool) (l : Line) (s : State) :
    ∃ c, (endRingCadence g l s).line l = { s.line l with cad := c } := by
  unfold endRingCadence
  split
  · obtain ⟨t, ht⟩ := line_endRinging g l l s
    exact ⟨_, by rw [line_endCadence_same, ht]⟩
  · exact ⟨_, rfl⟩

/-- The end of a ring cadence in the arbiter is a stop as the claims say it. -/
theorem endRingCadence_stopped {l : Line} {s : State} (hr : (s.line l).cad.kind = .ring) (h : ListSound l s) :
    (endRingCadence true l s).ring = ringStopped l (s.line l).sup.feed s
      ∧ (endRingCadence true l s).line (otherLine l) = otherAfterStop l s := by
  have he : endRingCadence true l s = endCadence l (endRinging true l s) := if_pos (decide_eq_true hr)
  rw [he]
  refine ⟨endCadence_ringStopped hr rfl (fun m => ?_) fun m => ?_, ?_⟩
  · obtain ⟨t, ht⟩ := line_endRinging true l m s
    rw [ht]
  · obtain ⟨t, ht⟩ := line_endRinging true l m s
    rw [ht]
  · rw [line_endCadence_other, line_endRinging_other h]

/-- Whatever cadence ran, the line is reset to the same state. -/
theorem line_resetLine_same (g : Bool) (l : Line) (s : State) : (resetLine g l s).line l = resetLineState (s.line l) := by
  obtain ⟨c, hc⟩ := line_endRingCadence_same g l s
  rw [resetLine, line_modLine_same, hc]
  rfl

theorem line_resetLine_other (g : Bool) (l : Line) (s : State) :
    (resetLine g l s).line (otherLine l) = (endRingCadence g l s).line (otherLine l) :=
  line_modLine_other _ _ _ _ (otherLine_ne l)

theorem ringWork_resetLine (g : Bool) (l : Line) (s : State) : RingWork s (resetLine g l s) :=
  (ringWork_endRingCadence g l s).trans (ringWork_modLine _ _ _)

theorem endRingCadence_none {g : Bool} {l : Line} {s : State} (hr : (s.line l).cad.kind ≠ .ring) :
    endRingCadence g l s = s := if_neg (by simpa [ringCadence] using hr)

/-- The supervisor's start for its feed mode (R19, R96). -/
theorem resetSupervisor_eq (x : LineState) : resetSupervisor x =
    { feed := x.sup.feed
      state := if x.sup.feed = .off then .down else .onHook
      samples := x.sup.samples, filteredOffHook := x.sup.filteredOffHook
      qualification := if x.sup.feed ≠ .off ∧ x.sup.filteredOffHook = true
        then some { start := x.ms, offQualify := 30 } else none
      breakRecord := none, pulseCount := 0, interdigitTimer := none, chatter := false
      overcurrentTimer := if x.sup.feed ≠ .off ∧ x.sup.overcurrent = true then some x.ms else none
      retryTimer := none, restoreCheck := none, seriesOpen := false, timing := HookTiming.default
      overcurrent := x.sup.overcurrent } := by
  unfold resetSupervisor
  by_cases h : x.sup.feed = .off
  · simp [h, discardTimings]
  · simp only [h, discardTimings, enterOnHook, freshQualification, freshOvercurrent, HookTiming.default, if_false, ne_eq,
      not_false_eq_true, true_and]
    rfl

/-- Silence is to come after an immediate close (R59). -/
theorem closedNow_silent (p : Period) : ∀ v ∈ p.closedNow.rest, v = 0 := by
  unfold Period.closedNow
  split
  · simp [Period.silent, silence]
  · simp

/-- Settles O24: the line's own state is `resetLineState`, and only a ring cadence reaches the arbiter. -/
theorem lineResetQuiets : Obligations.LineResetQuiets := by
  intro p tag l s hf ho
  have hwork := ringWork_resetLine true l s
  obtain ⟨⟨hsteps, hpairs, htick, -⟩, ha, hb⟩ := hwork
  refine ⟨resetLine true l s, ?_, ha, hb, hsteps, hpairs, htick, ?_⟩
  · refine congrArg _ ((issue_of_free hf _ _).trans ?_)
    rw [doLineReset, ownerCommand_owned p _ l _ s (lineOf_lineByte l) ho]
    rfl
  rw [line_resetLine_same, line_resetLine_other]
  refine ⟨⟨rfl, rfl, rfl, rfl, rfl, rfl, rfl⟩, rfl, resetSupervisor_eq _, rfl, rfl, rfl, rfl, rfl, rfl, storedCount_empty,
    rfl, rfl, rfl, rfl, rfl, closedNow_silent _, rfl, rfl, list_zero, rfl, fun hr => ?_, fun hr h => ?_⟩
  · rw [resetLine, modLine_ring, endRingCadence_none hr]
    exact ⟨rfl, rfl⟩
  · rw [resetLine, modLine_ring]
    exact endRingCadence_stopped hr h

/-! ### Going off-hook (R99, R102, R117) -/

/-- What a line holds once it has gone off-hook, but for its detectors. -/
def offHookLine (trip : Bool) (x : LineState) : LineState :=
  { x with
    sup := { x.sup with state := .offHook, qualification := none, chatter := false, feed := wokenFeed x.sup.feed }
    events := recorded x.events (eventNow x .offHook 0 0 x.sup.chatter trip) }

/-- The state before the detectors follow. -/
def offHookEvent (l : Line) (trip : Bool) (s : State) : State :=
  emit l .offHook 0 0 trip (wake l (s.modSup l fun v => { v with state := .offHook, qualification := none }))

theorem line_offHookEvent (l : Line) (trip : Bool) (s : State) :
    (offHookEvent l trip s).line l = offHookLine trip (s.line l) := by
  rw [offHookEvent, line_emit_same, line_wake_same, line_modSup_same]
  rfl

/-- With the tone detectors at rest, going off-hook leaves no tone or digit event. -/
theorem goOffHook_eq {l : Line} {trip : Bool} {s : State} (h : TonesRest (s.line l)) : goOffHook l trip s
    = (offHookEvent l trip s).modLine l fun x => { x with det := followedDetectors (offHookEvent l trip s).tick x } := by
  refine followDetectors_of_silent (s := offHookEvent l trip s) (stopFindings_of_offHook ?_ ?_)
  · rw [line_offHookEvent]; exact h
  · rw [line_offHookEvent]; rfl

/-- What going off-hook does, with the tone detectors at rest. -/
structure WentOffHook (l : Line) (trip : Bool) (s u : State) : Prop where
  line : ∃ det, u.line l = { offHookLine trip (s.line l) with det := det }
  other : u.line (otherLine l) = s.line (otherLine l)
  ring : u.ring = if (s.line l).sup.feed = .standby then feedJudged l .normal s else s.ring
  work : PartWork s u
  noticed : Noticed l s u

/-- A supervisor's other fields do not matter to a judgement on the feed. -/
theorem feedJudged_modSup (l : Line) (m : FeedMode) (f : Supervisor → Supervisor) (s : State) :
    feedJudged l m (s.modSup l f) = feedJudged l m s := by
  simp only [feedJudged, modSup_ring, line_modSup_same, line_modSup_other _ _ _ _ (otherLine_ne l)]

theorem goOffHook_went {l : Line} {trip : Bool} {s : State} (h : TonesRest (s.line l)) :
    WentOffHook l trip s (goOffHook l trip s) := by
  rw [goOffHook_eq h]
  have hsup := lineWork_modSup l (fun v => { v with state := .offHook, qualification := none }) s
  have hemit := lineWork_emit l .offHook 0 0 trip
    (wake l (s.modSup l fun v => { v with state := .offHook, qualification := none }))
  have hdet := lineWork_modLine l (fun x => { x with det := followedDetectors (offHookEvent l trip s).tick x })
    (offHookEvent l trip s)
  have hlast := hemit.trans hdet
  refine ⟨⟨followedDetectors (offHookEvent l trip s).tick (offHookLine trip (s.line l)), ?_⟩, ?_, ?_,
    (hsup.part.trans (ringWork_wake l _).part).trans hlast.part, ?_⟩
  · rw [line_modLine_same, line_offHookEvent]
  · exact hlast.other.trans ((line_wake_other ..).trans hsup.other)
  · refine hlast.ring.trans ?_
    rw [wake_ring, line_modSup_same, feedJudged_modSup, modSup_ring]
  · exact (noticed_emit l .offHook 0 0 trip _).mono (by rw [line_wake_same, line_modSup_same]) hdet.stays

/-! ### A ring trip (R103) -/

/-- The state of a ring trip before the line goes off-hook. -/
def ringCleared (l : Line) (s : State) : State := stopCallerId l (endCadence l (endRinging true l s))

theorem line_ringCleared (l : Line) (s : State) : (ringCleared l s).line l = { s.line l with
    cad := endedEngine (s.line l).cad, cid := dropTransmission (s.line l).cid, events := afterAbort (s.line l) } := by
  obtain ⟨t, ht⟩ := line_endRinging true l l s
  rw [ringCleared, line_stopCallerId, line_endCadence_same, ht]
  rfl

theorem ringCleared_stopped {l : Line} {s : State} (hr : (s.line l).cad.kind = .ring) (h : ListSound l s) :
    (ringCleared l s).ring = ringStopped l (s.line l).sup.feed s
      ∧ (ringCleared l s).line (otherLine l) = otherAfterStop l s := by
  have hstop := endRingCadence_stopped hr h
  have he : endRingCadence true l s = endCadence l (endRinging true l s) := if_pos (decide_eq_true hr)
  rw [he] at hstop
  have hwork := lineWork_stopCallerId l (endCadence l (endRinging true l s))
  exact ⟨hwork.ring.trans hstop.1, hwork.other.trans hstop.2⟩

theorem partWork_ringCleared (l : Line) (s : State) : PartWork s (ringCleared l s) :=
  ((ringWork_endRinging true l s).trans (ringWork_endCadence l _)).part.trans (lineWork_stopCallerId l _).part

theorem ringTrip_eq (l : Line) (s : State) : ringTrip l s = goOffHook l true (ringCleared l s) := rfl

theorem exec_offHookQualified {l : Line} {s : State} (h : qualificationDue (s.line l) = true) :
    exec (.offHookQualified l) s = .next (completeQualification l s) := congrArg Host.Outcome.next (if_pos h)

theorem qualificationDue_of {x : LineState} {q : Qualification} (hs : x.sup.state = .onHook)
    (hq : x.sup.qualification = some q)
    (h : (if ringCadence x then Config.ringQualifyMs else ownQualify x) ≤ (x.ms - q.start).toNat) :
    qualificationDue x = true := by
  simp only [qualificationDue, hs, decide_true, Bool.true_and, qualifiedFor, hq]
  exact decide_eq_true h

/-- Settles O32. -/
theorem offHookQualifies : Obligations.OffHookQualifies := by
  intro l s q hs hq hrest
  refine ⟨fun hk hlong => ?_, fun hk hlong hsound => ?_⟩
  · have hr : ringCadence (s.line l) = false := decide_eq_false hk
    have hdue : qualificationDue (s.line l) = true := qualificationDue_of hs hq (by
      rw [hr, ownQualify, hq]; exact hlong)
    have hw := goOffHook_went (trip := false) hrest
    obtain ⟨det, hline⟩ := hw.line
    have hexec : exec (.offHookQualified l) s = .next (goOffHook l false s) := by
      rw [exec_offHookQualified hdue, completeQualification, hr]
      rfl
    refine ⟨_, hexec, ?_⟩
    rw [hline]
    exact ⟨rfl, rfl, hw.ring, ⟨rfl, rfl, rfl, rfl⟩, rfl, rfl, ⟨rfl, rfl, rfl, rfl, rfl, rfl, rfl⟩, hw.other, hw.work.rest,
      hw.noticed, hw.work.ports⟩
  · have hr : ringCadence (s.line l) = true := decide_eq_true hk
    have hdue : qualificationDue (s.line l) = true := qualificationDue_of hs hq (by rw [hr]; exact hlong)
    have hclear := line_ringCleared l s
    obtain ⟨hring, hother⟩ := ringCleared_stopped hk hsound
    have hleaves : (ringCleared l s).ring.converter ≠ .driving l ∧ l ∉ (ringCleared l s).ring.waitList := by
      rw [hring]; exact ringStopped_leaves hsound _
    have hw : WentOffHook l true (ringCleared l s) (ringTrip l s) := by
      rw [ringTrip_eq]
      exact goOffHook_went (by rw [hclear]; exact hrest)
    obtain ⟨det, hline⟩ := hw.line
    have hexec : exec (.offHookQualified l) s = .next (ringTrip l s) := by
      rw [exec_offHookQualified hdue, completeQualification, hr]
      rfl
    have hgone : (ringTrip l s).ring.converter ≠ .driving l ∧ l ∉ (ringTrip l s).ring.waitList := by
      rw [hw.ring]
      split
      · exact feedJudged_leaves .normal hleaves
      · exact hleaves
    have hwork := (partWork_ringCleared l s).trans hw.work
    refine ⟨_, hexec, ?_⟩
    rw [hline, hclear]
    refine ⟨rfl, rfl, rfl, hgone.1, hgone.2, rfl, rfl, rfl, fun hfeed => ⟨?_, hw.other.trans hother⟩, ⟨rfl, rfl, rfl, rfl⟩,
      ⟨rfl, rfl, rfl, rfl, rfl, rfl, rfl⟩, hwork.rest, hw.noticed.mono (by rw [hclear]) fun _ _ h => h, hwork.ports⟩
    rw [hw.ring, hclear, if_neg hfeed, hring]

end Sys2Proof.Machine
end

section
/-! SUPPORT. Settled: the loop fault, with the stop of whatever cadence runs (R112, R145). -/

namespace Sys2Proof.Machine

open Sys2Proof.Claim Sys2Proof.Safety

/-! ### The stop of whatever cadence runs (R145) -/

/-- A running cadence of either kind is stopped. -/
def cadenceStopped (l : Line) (s : State) : State := stopTone l (stopRing l s)

theorem cadenceStopped_notRing {l : Line} {s : State} (h : (s.line l).cad.kind ≠ .ring) :
    cadenceStopped l s = stopTone l s := by
  rw [cadenceStopped, stopRing, if_neg (by simpa [ringCadence] using h)]

/-- The stop of a ring cadence leaves no tone cadence to stop. -/
theorem cadenceStopped_ring {l : Line} {s : State} (h : (s.line l).cad.kind = .ring) :
    cadenceStopped l s = endCadence l (stopCallerId l (endRinging true l s)) := by
  have hr : ringCadence (s.line l) = true := decide_eq_true h
  rw [cadenceStopped, stopRing, if_pos hr, stopTone_eq, if_neg]
  rw [line_endCadence_same]
  nofun

/-- The line after its cadence has stopped: a ring cadence's record is gone, its transmission aborted. -/
theorem line_cadenceStopped (l : Line) (s : State) : ∃ c, (cadenceStopped l s).line l = { s.line l with
      cad := c
      cid := if (s.line l).cad.kind = .ring then dropTransmission (s.line l).cid else (s.line l).cid
      events := if (s.line l).cad.kind = .ring then afterAbort (s.line l) else (s.line l).events }
    ∧ c.kind = .none ∧ ((s.line l).cad.kind = .none → c = (s.line l).cad) := by
  by_cases h : (s.line l).cad.kind = .ring
  · obtain ⟨t, ht⟩ := line_endRinging true l l s
    refine ⟨endedEngine (s.line l).cad, ?_, rfl, fun hn => absurd (hn.symm.trans h) nofun⟩
    rw [cadenceStopped_ring h, line_endCadence_same, line_stopCallerId, ht, if_pos h, if_pos h]
    rfl
  · refine ⟨toneStopped (s.line l).cad, ?_, toneStopped_kind h, fun hn => if_neg (by rw [hn]; nofun)⟩
    rw [cadenceStopped_notRing h, line_stopTone, if_neg h, if_neg h]

theorem partWork_cadenceStopped (l : Line) (s : State) : PartWork s (cadenceStopped l s) := by
  by_cases h : (s.line l).cad.kind = .ring
  · rw [cadenceStopped_ring h]
    exact (ringWork_endRinging true l s).part.trans
      ((lineWork_stopCallerId l _).part.trans (ringWork_endCadence l _).part)
  · rw [cadenceStopped_notRing h]
    exact (lineWork_stopTone l s).part

/-- A ring cadence stops in the arbiter as the claims say it. -/
theorem cadenceStopped_stopped {l : Line} {s : State} (hr : (s.line l).cad.kind = .ring) (h : ListSound l s) :
    (cadenceStopped l s).ring = ringStopped l (s.line l).sup.feed s
      ∧ (cadenceStopped l s).line (otherLine l) = otherAfterStop l s := by
  have hwork := lineWork_stopCallerId l (endRinging true l s)
  have hline (m : Line) : ∃ t, ((stopCallerId l (endRinging true l s)).line m).cad = { (s.line m).cad with timer := t }
      ∧ ((stopCallerId l (endRinging true l s)).line m).sup = (s.line m).sup := by
    obtain ⟨t, ht⟩ := line_endRinging true l m s
    refine ⟨t, ?_⟩
    by_cases hm : m = l
    · subst hm; rw [line_stopCallerId, ht]; exact ⟨rfl, rfl⟩
    · rw [eq_otherLine hm] at ht ⊢
      rw [hwork.other, ht]; exact ⟨rfl, rfl⟩
  rw [cadenceStopped_ring hr]
  refine ⟨endCadence_ringStopped hr hwork.ring (fun m => ?_) fun m => ?_, ?_⟩
  · obtain ⟨t, hc, -⟩ := hline m
    rw [hc]
  · obtain ⟨t, -, hs⟩ := hline m
    rw [hs]
  · rw [line_endCadence_other, hwork.other, line_endRinging_other h]

/-! ### A supervisor's change does not matter to the arbiter -/

theorem ringStopped_modSup (l : Line) (m : FeedMode) (f : Supervisor → Supervisor) (s : State) :
    ringStopped l m (s.modSup l f) = ringStopped l m s := by
  simp only [ringStopped, modSup_ring, line_modSup_other _ _ _ _ (otherLine_ne l)]

theorem otherAfterStop_modSup (l : Line) (f : Supervisor → Supervisor) (s : State) :
    otherAfterStop l (s.modSup l f) = otherAfterStop l s := by
  simp only [otherAfterStop, modSup_ring, line_modSup_other _ _ _ _ (otherLine_ne l)]

/-! ### The loop fault (R112) -/

/-- The supervisor with its feed removed and nothing timed (R112 steps 1 to 3). -/
def feedRemoved (v : Supervisor) : Supervisor :=
  { discardTimings v with state := .down, restoreCheck := none, overcurrentTimer := none }

/-- An open series is open. -/
theorem eta_seriesOpen {x : LineState} (h : x.sup.seriesOpen = true) :
    { x with sup := { x.sup with seriesOpen := true } } = x := by rw [← h]

/-- LOOP_FAULT for a new series, and none within one (R112 step 5). -/
theorem line_openSeries (l : Line) (s : State) : (openSeries l s).line l = { s.line l with
    sup := { (s.line l).sup with
      seriesOpen := true, chatter := if (s.line l).sup.seriesOpen then (s.line l).sup.chatter else false }
    events := if (s.line l).sup.seriesOpen then (s.line l).events
      else recorded (s.line l).events (eventNow (s.line l) .loopFault 0 0 (s.line l).sup.chatter false) } := by
  unfold openSeries
  by_cases h : (s.line l).sup.seriesOpen = true
  · rw [if_pos h, if_pos h, if_pos h]
    exact (eta_seriesOpen h).symm
  · rw [if_neg h, if_neg h, if_neg h, line_modSup_same, line_emit_same]
    rfl

theorem lineWork_openSeries (l : Line) (s : State) : LineWork l s (openSeries l s) := by
  unfold openSeries
  split
  · exact .refl l s
  · exact (lineWork_emit ..).trans (lineWork_modSup ..)

theorem noticed_openSeries {l : Line} {s : State} (h : (s.line l).sup.seriesOpen = false) :
    Noticed l s (openSeries l s) := by
  rw [openSeries, if_neg (by rw [h]; nofun)]
  exact (noticed_emit ..).mono rfl (lineWork_modSup ..).stays

/-- The retry timer starts (R112 step 6). -/
def retryStarted (x : LineState) : LineState := { x with sup := { x.sup with retryTimer := some x.ms } }

/-- A fault from the feed's removal to the start of the retry timer. -/
def faultStored (l : Line) (s : State) : State :=
  (openSeries l (cadenceStopped l (s.modSup l feedRemoved))).modLine l retryStarted

theorem declareFault_eq (l : Line) (s : State) : declareFault l s = followDetectors l (faultStored l s) := rfl

/-- The line once a fault is stored, `c` being its cadence engine. -/
def faultedLine (c : CadenceEngine) (x : LineState) : LineState :=
  { x with
    sup := { feedRemoved x.sup with
      seriesOpen := true, chatter := if x.sup.seriesOpen then x.sup.chatter else false, retryTimer := some x.ms }
    cad := c
    cid := if x.cad.kind = .ring then dropTransmission x.cid else x.cid
    events := if x.sup.seriesOpen then (if x.cad.kind = .ring then afterAbort x else x.events)
      else recorded (if x.cad.kind = .ring then afterAbort x else x.events)
        (eventNow x .loopFault 0 0 x.sup.chatter false) }

theorem line_faultStored (l : Line) (s : State) : ∃ c, (faultStored l s).line l = faultedLine c (s.line l)
    ∧ c.kind = .none ∧ ((s.line l).cad.kind = .none → c = (s.line l).cad) := by
  obtain ⟨c, hc, hk, hn⟩ := line_cadenceStopped l (s.modSup l feedRemoved)
  rw [line_modSup_same] at hc hn
  refine ⟨c, ?_, hk, hn⟩
  rw [faultStored, line_modLine_same, line_openSeries, hc]
  rfl

/-- A quiet line leaves no event of its detectors at a fault. -/
theorem declareFault_quiet {l : Line} {s : State} (h : Quiet (s.line l)) : declareFault l s
    = (faultStored l s).modLine l fun x => { x with det := followedDetectors (faultStored l s).tick x } := by
  obtain ⟨c, hc, -, -⟩ := line_faultStored l s
  rw [declareFault_eq]
  exact followDetectors_of_silent (stopFindings_of_quiet (by rw [hc]; exact quiet_of_det h rfl rfl))

/-- From the stop of the cadence on a fault works on its line alone. -/
theorem lineWork_declareFault {l : Line} {s : State} (h : Quiet (s.line l)) :
    LineWork l (cadenceStopped l (s.modSup l feedRemoved)) (declareFault l s) := by
  rw [declareFault_quiet h]
  exact (lineWork_openSeries l _).trans ((lineWork_modLine l retryStarted _).trans (lineWork_modLine ..))

theorem exec_loopFault {l : Line} {s : State} {t : Word} (hs : (s.line l).sup.state ≠ .down)
    (ht : (s.line l).sup.overcurrentTimer = some t) (hlong : 50 ≤ ((s.line l).ms - t).toNat) :
    exec (.loopFault l) s = .next (declareFault l s) := by
  have hdue : faultDue (s.line l) = true := by
    rw [faultDue, decide_eq_true hs, ht, Bool.true_and]
    exact (hasRun_iff _ t _).mpr hlong
  exact congrArg Host.Outcome.next (if_pos hdue)

theorem noticed_declareFault {l : Line} {s : State} (hq : Quiet (s.line l)) (h : (s.line l).sup.seriesOpen = false) :
    Noticed l s (declareFault l s) := by
  obtain ⟨c, hc, -, -⟩ := line_cadenceStopped l (s.modSup l feedRemoved)
  rw [line_modSup_same] at hc
  have hn := noticed_openSeries (l := l) (s := cadenceStopped l (s.modSup l feedRemoved)) (by rw [hc]; exact h)
  rw [declareFault_quiet hq]
  exact hn.mono (by rw [hc]) ((lineWork_modLine l retryStarted _).trans (lineWork_modLine ..)).stays

/-- Settles O36. -/
theorem loopFaultRemovesFeed : Obligations.LoopFaultRemovesFeed := by
  intro l s hs
  refine ⟨fun hn => ?_, rfl, fun t ht hlong hq => ?_⟩
  · refine congrArg Host.Outcome.next (modLine_congr ?_)
    simp only [hn, if_neg hs]
    rfl
  obtain ⟨c, hc, hk, hnone⟩ := line_faultStored l s
  have hline : ∃ det, (declareFault l s).line l = { faultedLine c (s.line l) with det := det } :=
    ⟨_, by rw [declareFault_quiet hq, line_modLine_same, hc]⟩
  obtain ⟨det, hline⟩ := hline
  have htail := lineWork_declareFault hq
  have hsup := lineWork_modSup l feedRemoved s
  have hpart := (hsup.part.trans (partWork_cadenceStopped l _)).trans htail.part
  have hkind : ((s.modSup l feedRemoved).line l).cad.kind = (s.line l).cad.kind := by rw [line_modSup_same]
  refine ⟨_, exec_loopFault hs ht hlong, ?_⟩
  rw [hline]
  refine ⟨⟨rfl, rfl, rfl, rfl, rfl, rfl, rfl, rfl, rfl, rfl, rfl⟩, rfl, rfl, rfl, hk, fun ho => if_pos ho,
    fun ho => ⟨if_neg (by rw [ho]; nofun), noticed_declareFault hq ho⟩, ⟨rfl, rfl, rfl, rfl⟩,
    ⟨rfl, rfl, rfl, rfl, rfl, rfl, rfl⟩, hpart.rest, hpart.ports,
    fun before hb => ⟨fun ho => ?_, fun ho => ?_⟩, hnone, fun hr => ⟨if_neg hr, ?_, ?_⟩, fun hr h => ⟨?_, ?_, ?_, ?_⟩⟩
  · rw [hb]; exact if_pos ho
  · rw [hb]; exact if_neg (by rw [ho]; nofun)
  · rw [htail.ring, cadenceStopped_notRing (hkind ▸ hr)]
    exact (lineWork_stopTone l _).ring.trans hsup.ring
  · rw [htail.other, cadenceStopped_notRing (hkind ▸ hr)]
    exact (lineWork_stopTone l _).other.trans hsup.other
  · simp only [faultedLine, if_pos hr, dropTransmission]
  · simp only [faultedLine, if_pos hr, dropTransmission]
  all_goals
    obtain ⟨hring, hother⟩ := cadenceStopped_stopped (hkind.trans hr) (by simpa [ListSound] using h)
  · rw [htail.ring, hring, ringStopped_modSup, line_modSup_same]
    rfl
  · rw [htail.other, hother, otherAfterStop_modSup]

end Sys2Proof.Machine
end

section
/-! SUPPORT. Settled: what an owner change does to the line, at the ports and at the channel, and DEVICE_RESET. -/

namespace Sys2Proof.Machine

open Sys2Proof.Claim Sys2Proof.Safety

/-! ### The agreement restarts (R36) -/

theorem line_setAgreement (l : Line) (a : Agreement) (s : State) : (setAgreement l a s).line l =
    { s.line l with chan := { (s.line l).chan with agreement := a } } := by
  unfold setAgreement
  split
  next h => rw [← h]
  next => rw [line_latchOwner, line_modChan_same]

theorem lineWork_setAgreement (l : Line) (a : Agreement) (s : State) : LineWork l s (setAgreement l a s) := by
  unfold setAgreement
  split
  · exact .refl l s
  · exact (lineWork_modLine ..).trans (lineWork_latchOwner ..)

/-- The owner is told of a change of the agreement state (R44). -/
theorem setAgreement_told {l : Line} {a : Agreement} {s : State} {p : Port} (h : (s.line l).chan.agreement ≠ a)
    (ho : (s.line l).owner = some p) : isLatched ((setAgreement l a s).port p).flags (.agreementChanged l) = true := by
  have ho' : ((s.modChan l fun c => { c with agreement := a }).line l).owner = some p := by rw [line_modChan_same]; exact ho
  rw [setAgreement, if_neg h]
  simp only [latchOwner, ho', isLatched_latch]

/-- A line whose agreement has restarted. -/
def restarted (x : LineState) : LineState :=
  { x with
    chan := { x.chan with
      agreement := .advertise, farWord := none, choice := none, flags := AgreementFlags.clear, bareCount := 0
      agreementTimer := if x.buf.state.isOpen then some x.ms else none }
    ctr := { x.ctr with agreementRestarts := satAdd x.ctr.agreementRestarts 1 } }

theorem line_restartAgreement (l : Line) (s : State) : (restartAgreement l s).line l = restarted (s.line l) := by
  rw [restartAgreement, line_modLine_same, line_setAgreement]
  rfl

theorem lineWork_restartAgreement (l : Line) (s : State) : LineWork l s (restartAgreement l s) :=
  (lineWork_setAgreement l .advertise s).trans (lineWork_modLine ..)

theorem restartAgreement_told {l : Line} {s : State} {p : Port} (h : (s.line l).chan.agreement ≠ .advertise)
    (ho : (s.line l).owner = some p) : isLatched ((restartAgreement l s).port p).flags (.agreementChanged l) = true := by
  rw [restartAgreement, port_modLine]
  exact setAgreement_told h ho

/-! ### The parts of an owner change (R8 to R12) -/

/-- The channel of a line whose owner has changed: nothing when CLOSED, else a pending splice and a restart (R10, R11). -/
def channelChanged (x : LineState) : LineState := if x.buf.state = .closed then x else restarted (pendSplice x)

theorem line_channelAtChange (l : Line) (s : State) : (channelAtChange l s).line l = channelChanged (s.line l) := by
  unfold channelAtChange channelChanged
  split
  · rfl
  · rw [line_restartAgreement, line_modLine_same]

theorem lineWork_channelAtChange (l : Line) (s : State) : LineWork l s (channelAtChange l s) := by
  unfold channelAtChange
  split
  · exact .refl l s
  · exact (lineWork_modLine ..).trans (lineWork_restartAgreement ..)

theorem channelAtChange_told {l : Line} {s : State} {p : Port} (hc : (s.line l).buf.state ≠ .closed)
    (h : (s.line l).chan.agreement ≠ .advertise) (ho : (s.line l).owner = some p) :
    isLatched ((channelAtChange l s).port p).flags (.agreementChanged l) = true := by
  rw [channelAtChange, if_neg hc]
  exact restartAgreement_told (by rw [line_modLine_same]; exact h) (by rw [line_modLine_same]; exact ho)

theorem line_noticeQueued (l m : Line) (s : State) : (noticeQueued l s).line m = s.line m := by
  unfold noticeQueued
  split
  · rfl
  · exact line_latchOwner ..

theorem lineWork_noticeQueued (l : Line) (s : State) : LineWork l s (noticeQueued l s) := by
  unfold noticeQueued
  split
  · exact .refl l s
  · exact lineWork_latchOwner ..

theorem noticeQueued_told {l : Line} {s : State} {p : Port} (h : (s.line l).events ≠ [])
    (ho : (s.line l).owner = some p) : isLatched ((noticeQueued l s).port p).flags (.events l) = true := by
  rw [noticeQueued, if_neg (by simpa using h)]
  simp only [latchOwner, ho, isLatched_latch]

/-- The frames of line `l` that leave with its owner `o`. -/
def leavingFrames (l : Line) (o : Option Port) (s : State) : Nat :=
  match o with
  | some p => (s.port p).outbound.countP (Message.isMediaOf l)
  | none => 0

/-- A line some of whose frames were dropped at a port (R50). -/
def framesDropped (n : Nat) (x : LineState) : LineState :=
  { x with ctr := { x.ctr with uplinkDropped := satAdd x.ctr.uplinkDropped n } }

theorem line_leavePort (l : Line) (o : Option Port) (s : State) :
    (leavePort l o s).line l = framesDropped (leavingFrames l o s) (s.line l) := by
  cases o with
  | some p => simp [leavePort, purgeMedia, leavingFrames, framesDropped, port_latch]
  | none => simp [leavePort, leavingFrames, framesDropped]

/-- A port after its line has left it (R8, R9). -/
def portLeft (l : Line) (q : PortLink) : PortLink :=
  { q with
    flags := q.flags ||| (Notice.ownershipLost l).mask
    outbound := q.outbound.filter fun m => !m.isMediaOf l
    sending := keepSending (Message.isMediaOf l) q }

theorem port_leavePort_previous (l : Line) (p : Port) (s : State) :
    (leavePort l (some p) s).port p = portLeft l (s.port p) := by
  simp only [leavePort, purgeMedia, port_modCtr, port_modPort_same, port_latch, if_true]
  rfl

theorem port_leavePort_other {l : Line} {o : Option Port} {q : Port} (h : o ≠ some q) (s : State) :
    (leavePort l o s).port q = s.port q := by
  cases o with
  | none => rfl
  | some p =>
    have hq : q ≠ p := fun e => h (by rw [e])
    simp only [leavePort, purgeMedia, port_modCtr, port_modPort_other _ _ _ _ hq, port_latch, if_neg hq]

theorem portKept_leavePort (l : Line) (o : Option Port) (q : Port) (s : State) :
    PortKept (s.port q) ((leavePort l o s).port q) := by
  by_cases h : o = some q
  · rw [h, port_leavePort_previous]
    exact ⟨rfl, rfl, rfl, rfl, rfl, rfl, rfl, rfl, rfl, rfl⟩
  · rw [port_leavePort_other h]
    exact .refl _

theorem elseSame_leavePort (l : Line) (o : Option Port) (s : State) : ElseSame l s (leavePort l o s) := by
  cases o with
  | none => exact .refl l s
  | some p =>
    refine ⟨?_, ?_, ?_, ?_, ?_, ?_⟩ <;>
      simp [leavePort, purgeMedia, line_modCtr_other _ _ _ _ (otherLine_ne l)]

/-! ### An owner change -/

/-- The state in which the previous owner has lost the line. -/
def leftState (l : Line) (new : Option Port) (s : State) : State :=
  leavePort l (s.line l).owner (s.modLine l (reowned new))

theorem changeOwner_eq (l : Line) (new : Option Port) (s : State) :
    changeOwner l new s = noticeQueued l (channelAtChange l (leftState l new s)) := rfl

theorem line_leftState (l : Line) (new : Option Port) (s : State) : (leftState l new s).line l =
    framesDropped (leavingFrames l (s.line l).owner s) (reowned new (s.line l)) := by
  rw [leftState, line_leavePort, line_modLine_same]
  congr 1
  unfold leavingFrames
  split
  · rw [port_modLine]
  · rfl

/-- The line after an owner change. -/
theorem line_changeOwner (l : Line) (new : Option Port) (s : State) : (changeOwner l new s).line l =
    channelChanged (framesDropped (leavingFrames l (s.line l).owner s) (reowned new (s.line l))) := by
  rw [changeOwner_eq, line_noticeQueued, line_channelAtChange, line_leftState]

/-- Once the previous owner has lost the line, only the line and notice flags change. -/
theorem lineWork_changeOwner (l : Line) (new : Option Port) (s : State) :
    LineWork l (leftState l new s) (changeOwner l new s) :=
  (lineWork_channelAtChange l _).trans (lineWork_noticeQueued l _)

theorem portKept_leftState (l : Line) (new : Option Port) (q : Port) (s : State) :
    PortKept (s.port q) ((leftState l new s).port q) := by
  have h := portKept_leavePort l (s.line l).owner q (s.modLine l (reowned new))
  rwa [port_modLine] at h

theorem elseSame_leftState (l : Line) (new : Option Port) (s : State) : ElseSame l s (leftState l new s) :=
  (lineWork_modLine l (reowned new) s).elsewhere.trans (elseSame_leavePort l _ _)

/-! ### The three rows (R4, R6, R7) -/

/-- What a row that changes the owner leaves behind its reply: the owner change, and for HAND_OVER the notice of a gift. -/
structure OwnerMoved (l : Line) (new : Option Port) (given : Option Port) (s u : State) : Prop where
  line : u.line l = (changeOwner l new s).line l
  work : LineWork l (changeOwner l new s) u
  given : ∀ p, given = some p → isLatched (u.port p).flags (.ownershipGiven l) = true

theorem ownerMoved_changeOwner (l : Line) (new : Option Port) (s : State) :
    OwnerMoved l new none s (changeOwner l new s) := ⟨rfl, .refl l _, nofun⟩

theorem ownerMoved_given (l : Line) (q : Port) (new : Option Port) (s : State) :
    OwnerMoved l new (some q) s (latch q (.ownershipGiven l) (changeOwner l new s)) :=
  ⟨line_latch .., lineWork_latch .., fun p hp => by injection hp with hp; subst hp; exact isLatched_latch ..⟩

theorem owner_changeOwner (l : Line) (new : Option Port) (s : State) :
    ((changeOwner l new s).line l).owner = new ∧ ((changeOwner l new s).line l).generation = (s.line l).generation + 1 := by
  rw [line_changeOwner]
  unfold channelChanged
  split <;> exact ⟨rfl, rfl⟩

theorem ownerBytes_changeOwner (l : Line) (new : Option Port) (s : State) : ownerBytes l (changeOwner l new s)
    = [ownerByte new, hiByte ((s.line l).generation + 1), loByte ((s.line l).generation + 1)] := by
  rw [ownerBytes, (owner_changeOwner l new s).1, (owner_changeOwner l new s).2]
  rfl

/-- Each row that changes the owner answers OK with its data and moves the line. -/
theorem changesOwner_exec {c : Instr} {s : State} {p : Port} {tag : Byte} {l : Line} {new : Option Port} {code : Byte}
    (h : ChangesOwner c s p tag l new code) (hf : Free s p) : ∃ u,
      exec c s = .next (replied p tag code .ok (changeData code new ((s.line l).generation + 1)) u)
      ∧ OwnerMoved l new (if code = 0x12 then some (otherPort p) else none) s u := by
  obtain ⟨rfl, ho, rfl, rfl⟩ | ⟨rfl, ho, rfl, rfl⟩ | ⟨rfl, ho, rfl, rfl⟩ := h
  · refine ⟨_, ?_, ownerMoved_changeOwner l (some p) s⟩
    rw [exec_claim hf, claimLine, if_pos ⟨rfl, rfl⟩, if_neg ho, answered_accept, ownerBytes_changeOwner]
    rfl
  · refine ⟨_, congrArg _ ((issue_of_free hf _ _).trans ?_), ownerMoved_changeOwner l none s⟩
    rw [doRelease, ownerCommand_owned p _ l _ s (lineOf_lineByte l) ho]
    simp only [releaseOnLine, (owner_changeOwner l none s).2]
    rfl
  · refine ⟨_, congrArg _ ((issue_of_free hf _ _).trans ?_), ownerMoved_given l (otherPort p) _ s⟩
    rw [doHandOver, ownerCommand_owned p _ l _ s (lineOf_lineByte l) ho]
    have hb : ownerBytes l (latch (otherPort p) (.ownershipGiven l) (changeOwner l (some (otherPort p)) s))
        = ownerBytes l (changeOwner l (some (otherPort p)) s) := by simp only [ownerBytes, line_latch]
    simp only [handOverOnLine, hb, ownerBytes_changeOwner]
    rfl

/-- Settles O16. -/
theorem ownerChangeMovesLine : Obligations.OwnerChangeMovesLine := by
  intro c s p tag l new code h hf
  obtain ⟨u, hexec, hmoved⟩ := changesOwner_exec h hf
  have hwork := (lineWork_changeOwner l new s).trans hmoved.work
  refine ⟨u, hexec, ?_⟩
  have hline := hmoved.line.trans (line_changeOwner l new s)
  have helse := (elseSame_leftState l new s).trans hwork.elsewhere
  have hports (q : Port) := (portKept_leftState l new q s).trans (hwork.ports q).1
  rw [hline]
  unfold channelChanged
  split <;> exact ⟨rfl, rfl, rfl, rfl, rfl, rfl, rfl, rfl, rfl, rfl, rfl, rfl, rfl, helse, hports⟩

theorem channelChanged_of_closed {x : LineState} (hc : x.buf.state = .closed) : channelChanged x = x :=
  if_pos hc

theorem channelChanged_of_not_closed {x : LineState} (hc : x.buf.state ≠ .closed) :
    channelChanged x = restarted (pendSplice x) :=
  if_neg hc

/-- Settles O19. -/
theorem ownerChangeAtChannel : Obligations.OwnerChangeAtChannel := by
  intro c s p tag l new code h hf
  obtain ⟨u, hexec, hmoved⟩ := changesOwner_exec h hf
  have hline := hmoved.line.trans (line_changeOwner l new s)
  refine ⟨u, hexec, fun hc => ?_, fun hc => ?_⟩
  · rw [hline, channelChanged_of_closed (by exact hc)]
    exact ⟨rfl, rfl, rfl⟩
  · have hstays := (lineWork_noticeQueued l (channelAtChange l (leftState l new s))).trans hmoved.work
    rw [hline, channelChanged_of_not_closed (by exact hc)]
    refine ⟨rfl, rfl, rfl, rfl, fun q hq ha => hstays.stays q _ (channelAtChange_told ?_ ?_ ?_)⟩ <;> rw [line_leftState]
    · exact hc
    · exact ha
    · exact hq

theorem uplinkDropped_channelChanged (x : LineState) : (channelChanged x).ctr.uplinkDropped = x.ctr.uplinkDropped := by
  unfold channelChanged; split <;> rfl

theorem events_channelChanged (x : LineState) : (channelChanged x).events = x.events := by
  unfold channelChanged; split <;> rfl

theorem owner_channelChanged (x : LineState) : (channelChanged x).owner = x.owner := by
  unfold channelChanged; split <;> rfl

/-- The queue and the send position of the port that a line leaves (R9). -/
theorem keepSending_media {l : Line} {q : PortLink} {f : MediaFrame} {ms : List Message} (hs : q.sending = .head)
    (ho : q.outbound = .media f :: ms) (hl : f.line = l) :
    keepSending (Message.isMediaOf l) q = .departed (.media f) := by
  simp [keepSending, hs, ho, Message.isMediaOf, hl]

theorem keepSending_reply {l : Line} {q : PortLink} {r : Reply} {ms : List Message} (hs : q.sending = .head)
    (ho : q.outbound = .reply r :: ms) : keepSending (Message.isMediaOf l) q = .head := by
  simp [keepSending, hs, ho, Message.isMediaOf]

theorem port_leftState_previous {l : Line} {q : Port} {s : State} (ho : (s.line l).owner = some q) (new : Option Port) :
    (leftState l new s).port q = portLeft l (s.port q) := by
  rw [leftState, ho, port_leavePort_previous, port_modLine]

theorem isLatched_portLeft (l : Line) (q : PortLink) : isLatched (portLeft l q).flags (.ownershipLost l) = true := by
  simp [portLeft, isLatched, Notice.mask, notice_bit_lt]

/-- Settles O18. -/
theorem ownerChangeAtPorts : Obligations.OwnerChangeAtPorts := by
  intro c s p tag l new code h hf
  obtain ⟨u, hexec, hmoved⟩ := changesOwner_exec h hf
  have hline := hmoved.line.trans (line_changeOwner l new s)
  have hwork := (lineWork_changeOwner l new s).trans hmoved.work
  have hdropped : (u.line l).ctr.uplinkDropped
      = satAdd (s.line l).ctr.uplinkDropped (leavingFrames l (s.line l).owner s) := by
    rw [hline, uplinkDropped_channelChanged]; rfl
  refine ⟨u, hexec, fun q ho => ?_, fun q ho => ?_, fun ho => ?_, fun hc => ?_, fun q hq he => ?_⟩
  · obtain ⟨-, hout, hsend, -⟩ := hwork.ports q
    have hstays := hwork.stays q (.ownershipLost l)
    rw [port_leftState_previous ho] at hout hsend hstays
    exact ⟨hout, by rw [hdropped, ho]; rfl, hstays (isLatched_portLeft l _),
      fun f ms hs hm hl => hsend.trans (keepSending_media hs hm hl),
      fun r ms hs hm => hsend.trans (keepSending_reply hs hm)⟩
  · obtain ⟨-, hout, hsend, -⟩ := hwork.ports q
    rw [leftState, port_leavePort_other ho, port_modLine] at hout hsend
    exact ⟨hout, hsend⟩
  · rw [hdropped, ho]
    exact satAdd_zero _
  · exact hmoved.given _ (if_pos hc)
  · have htold : isLatched ((changeOwner l new s).port q).flags (.events l) = true := by
      rw [changeOwner_eq]
      refine noticeQueued_told ?_ ?_ <;> rw [line_channelAtChange, line_leftState]
      · rw [events_channelChanged]; exact he
      · rw [owner_channelChanged]; exact hq
    exact hmoved.work.stays q _ htold

/-! ### DEVICE_RESET (R20, R21) -/

theorem ringWork_deviceResetLine (l : Line) (s : State) : RingWork s (deviceResetLine l s) :=
  (ringWork_modLine s l _).trans ((ringWork_resetLine false l _).trans (ringWork_modLine _ l _))

/-- Both lines reset and without the sender as owner (R21 steps 1 and 2). -/
def linesReset (p : Port) (s : State) : State :=
  ((deviceResetLine .two (deviceResetLine .one s)).modLine .one (dropOwner p)).modLine .two (dropOwner p)

theorem ringWork_linesReset (p : Port) (s : State) : RingWork s (linesReset p s) :=
  (ringWork_deviceResetLine .one s).trans ((ringWork_deviceResetLine .two _).trans
    ((ringWork_modLine _ .one _).trans (ringWork_modLine _ .two _)))

theorem resetDevice_eq (p : Port) (s : State) : resetDevice p s =
    (((linesReset p s).modRing fun _ => RingArbiter.reset).modPort .a deviceResetPort).modPort .b deviceResetPort := rfl

theorem port_resetDevice (p q : Port) (s : State) : (resetDevice p s).port q = deviceResetPort (s.port q) := by
  rw [resetDevice_eq, ← (ringWork_linesReset p s).port q]
  generalize linesReset p s = t
  cases q <;> rfl

theorem restSame_resetDevice (p : Port) (s : State) : RestSame s (resetDevice p s) := by
  have hrest := (ringWork_linesReset p s).rest
  rw [resetDevice_eq]
  generalize linesReset p s = t at hrest ⊢
  exact hrest

/-- The port's reply is the only message of its queue after a reset. -/
theorem port_replied (p q : Port) (tag code : Byte) (r : Result) (d : List Byte) (s : State) :
    (replied p tag code r d s).port q = if q = p
      then { s.port q with outbound := (s.port q).outbound ++ [.reply { tag := tag, code := code, result := r, data := d }] }
      else s.port q := port_enqueueMessage ..

/-- What a reply leaves of a reset port, whichever port it is (R21). -/
theorem deviceReset_port (p q : Port) (tag : Byte) (s : State) : ∃ ms,
    (replied p tag 0x16 .ok [] (resetDevice p s)).port q = { deviceResetPort (s.port q) with outbound := ms } := by
  rw [port_replied, port_resetDevice]
  split
  · exact ⟨_, rfl⟩
  · exact ⟨[], rfl⟩

theorem keepSending_all {q : PortLink} {m : Message} {ms : List Message} (hs : q.sending = .head)
    (ho : q.outbound = m :: ms) : keepSending (fun _ => true) q = .departed m := by
  simp [keepSending, hs, ho]

theorem owns_other_iff (s : State) (p : Port) :
    (owns s p .one || owns s p .two) = true ↔ ∃ l, (s.line l).owner = some p := by
  simp only [owns, Bool.or_eq_true, decide_eq_true_iff]
  constructor
  · rintro (h | h)
    · exact ⟨_, h⟩
    · exact ⟨_, h⟩
  · rintro ⟨_ | _, h⟩
    · exact .inl h
    · exact .inr h

/-- A line that the other port does not own is unowned after the sender's reset. -/
theorem dropOwner_none {p : Port} {x : LineState} (h : x.owner ≠ some (otherPort p)) : (dropOwner p x).owner = none := by
  unfold dropOwner
  split
  · rfl
  next hp =>
    cases ho : x.owner with
    | none => rfl
    | some q => cases p <;> cases q <;> simp_all [otherPort]

/-- Settles O25. -/
theorem deviceResetJudged : Obligations.DeviceResetJudged := by
  intro p tag line s hf
  refine ⟨fun ho => ?_, fun ho => ?_⟩
  · refine congrArg _ ((issue_of_free hf _ _).trans ?_)
    rw [doDeviceReset, if_pos ((owns_other_iff s _).mpr ho)]
    rfl
  have hnot : ¬ (owns s (otherPort p) .one || owns s (otherPort p) .two) = true := fun h =>
    have ⟨l, hl⟩ := (owns_other_iff s _).mp h
    ho l hl
  have hexec : exec (.deviceReset p tag line) s = .next (replied p tag 0x16 .ok [] (resetDevice p s)) := by
    refine congrArg _ ((issue_of_free hf _ _).trans ?_)
    rw [doDeviceReset, if_neg hnot]
    rfl
  obtain ⟨hsteps, hpairs, htick, hpending⟩ := restSame_resetDevice p s
  refine ⟨_, hexec, ?_, ?_, ?_, ?_, ?_, fun l => ?_, ?_, ?_, fun q => ?_⟩
  · exact (modPort_steps ..).trans hsteps
  · exact (modPort_pairs ..).trans hpairs
  · exact (modPort_tick ..).trans htick
  · exact (modPort_pending ..).trans hpending
  · exact modPort_ring ..
  · have hl : (replied p tag 0x16 .ok [] (resetDevice p s)).line l = dropOwner p (deviceResetState (s.line l)) :=
      (line_modPort ..).trans (line_resetDevice p l s)
    have hown := dropOwner_none (p := p) (x := deviceResetState (s.line l)) (ho l)
    rw [hl]
    refine ⟨hown, ?_⟩
    unfold dropOwner
    split
    next h =>
      exact ⟨(if_pos h).symm, rfl, rfl, rfl, rfl, rfl, rfl, rfl, rfl, rfl, rfl, storedCount_empty, rfl, rfl, rfl, rfl, rfl,
        list_zero⟩
    next h =>
      exact ⟨(if_neg h).symm, rfl, rfl, rfl, rfl, rfl, rfl, rfl, rfl, rfl, rfl, storedCount_empty, rfl, rfl, rfl, rfl, rfl,
        list_zero⟩
  · rw [port_replied, if_pos rfl, port_resetDevice]
    rfl
  · rw [port_replied, if_neg (otherPort_ne p), port_resetDevice]
    rfl
  · obtain ⟨ms, hq⟩ := deviceReset_port p q tag s
    rw [hq]
    exact ⟨rfl, isLatched_resetDone, rfl, rfl, rfl, rfl, rfl, rfl, rfl, rfl, rfl, fun m ms => keepSending_all⟩

end Sys2Proof.Machine
end

section
/-! SUPPORT. What leaves every call as it was: ringing, cadences, caller-ID, loop supervision and the events of all of them
change no channel, no Playout Buffer, no Depth Tracker and no channel counter. -/

namespace Sys2Proof.Machine

open Sys2Proof.Claim

/-! ### Calls kept -/

/-- From `s` to `u` every line's channel, buffer, Depth Tracker and counters are the same. -/
def CallsKept (s u : State) : Prop := ∀ l, CallKept (s.line l) (u.line l)

theorem CallsKept.refl (s : State) : CallsKept s s := fun _ => ⟨rfl, rfl, rfl, rfl⟩

theorem CallsKept.trans {s t u : State} (h : CallsKept s t) (k : CallsKept t u) : CallsKept s u := fun l =>
  have ⟨h1, h2, h3, h4⟩ := h l
  have ⟨k1, k2, k3, k4⟩ := k l
  ⟨k1.trans h1, k2.trans h2, k3.trans h3, k4.trans h4⟩

theorem callsKept_ite {c : Prop} [Decidable c] {s u v : State} (h : CallsKept s u) (k : CallsKept s v) :
    CallsKept s (if c then u else v) := by
  split
  · exact h
  · exact k

theorem callsKept_of_lines {s u : State} (h : ∀ l, u.line l = s.line l) : CallsKept s u := fun l => by
  rw [h l]; exact ⟨rfl, rfl, rfl, rfl⟩

theorem callsKept_modLine {s : State} {l : Line} {f : LineState → LineState} (h : CallKept (s.line l) (f (s.line l))) :
    CallsKept s (s.modLine l f) := fun m => by
  rw [line_modLine]
  split
  next hm => rw [hm]; exact h
  next => exact ⟨rfl, rfl, rfl, rfl⟩

theorem callsKept_modSup (s : State) (l : Line) (f : Supervisor → Supervisor) : CallsKept s (s.modSup l f) :=
  callsKept_modLine ⟨rfl, rfl, rfl, rfl⟩

theorem callsKept_modCad (s : State) (l : Line) (f : CadenceEngine → CadenceEngine) : CallsKept s (s.modCad l f) :=
  callsKept_modLine ⟨rfl, rfl, rfl, rfl⟩

theorem callsKept_modCid (s : State) (l : Line) (f : CallerIdTx → CallerIdTx) : CallsKept s (s.modCid l f) :=
  callsKept_modLine ⟨rfl, rfl, rfl, rfl⟩

theorem callsKept_modRing (s : State) (f : RingArbiter → RingArbiter) : CallsKept s (s.modRing f) :=
  callsKept_of_lines (line_modRing s f)

theorem callsKept_modPort (s : State) (p : Port) (f : PortLink → PortLink) : CallsKept s (s.modPort p f) :=
  callsKept_of_lines (line_modPort s p f)

theorem callsKept_latchOwner (l : Line) (n : Notice) (s : State) : CallsKept s (latchOwner l n s) :=
  callsKept_of_lines fun m => line_latchOwner l m n s

theorem callsKept_storeEvent (l : Line) (e : EventRecord) (s : State) : CallsKept s (storeEvent l e s) := fun m => by
  rw [line_storeEvent]; split <;> exact ⟨rfl, rfl, rfl, rfl⟩

theorem callsKept_storePlain (l : Line) (k : EventKind) (v : Byte) (d : Nat) (s : State) :
    CallsKept s (storePlain l k v d s) := callsKept_storeEvent l _ s

theorem callsKept_emit (l : Line) (k : EventKind) (v : Byte) (d : Nat) (t : Bool) (s : State) :
    CallsKept s (emit l k v d t s) :=
  (callsKept_storeEvent l _ s).trans (callsKept_modSup _ l fun v => { v with chatter := false })

/-! ### Detectors that start and stop (R117, R126) -/

/-- What a stop of detectors leaves hands over no trigger (R126). -/
theorem stopFindings_trigger (x : LineState) : ∀ f ∈ stopFindings x, f.trigger = none := by
  have hdtmf (d : DtmfState) : ∀ f ∈ dtmfStopped d, f.trigger = none := by
    cases d <;> simp [dtmfStopped, digitFinding]
  have hans (k : Side) (a : AnswerState) : ∀ f ∈ answerStopped k a, f.trigger = none := by
    cases a <;> simp [answerStopped, toneEndFinding]
  intro f hf
  simp only [stopFindings, List.mem_append] at hf
  obtain hf | hf := hf
  · split at hf
    · cases hf
    · exact hdtmf _ f hf
  · split at hf
    · cases hf
    · exact (List.mem_append.mp hf).elim (hans _ _ f) (hans _ _ f)

/-- Findings that hand over no trigger are events alone. -/
theorem callsKept_applyFindings (l : Line) (fs : List Finding) (h : ∀ f ∈ fs, f.trigger = none) :
    ∀ s : State, CallsKept s (applyFindings l fs s) := by
  induction fs with
  | nil => exact fun s => .refl s
  | cons f fs ih =>
    intro s
    have hf : applyFinding l s f = storePlain l f.kind f.value f.duration s := by
      rw [applyFinding, h f List.mem_cons_self]
    refine .trans ?_ (ih (fun g hg => h g (List.mem_cons_of_mem _ hg)) _)
    rw [hf]
    exact callsKept_storePlain l _ _ _ s

theorem callsKept_followDetectors (l : Line) (s : State) : CallsKept s (followDetectors l s) :=
  (callsKept_modLine ⟨rfl, rfl, rfl, rfl⟩).trans (callsKept_applyFindings l _ (stopFindings_trigger _) _)

/-! ### Ringing (R149 to R162) -/

theorem callsKept_grantHead (s : State) : CallsKept s (grantHead s) := by
  unfold grantHead
  split
  · exact (callsKept_modRing s _).trans (callsKept_modLine ⟨rfl, rfl, rfl, rfl⟩)
  · exact .refl s

theorem callsKept_ringRequest (l : Line) (s : State) : CallsKept s (ringRequest l s) := by
  have h := callsKept_modRing s fun a => { a with waitList := a.waitList ++ [l] }
  unfold ringRequest
  dsimp only
  split
  · exact h.trans (callsKept_modRing _ _)
  · exact h
  · exact h.trans ((callsKept_modRing _ _).trans (callsKept_grantHead _))
  · exact h

theorem callsKept_judgeLastEnd (s : State) : CallsKept s (judgeLastEnd s) := callsKept_of_lines (line_judgeLastEnd s)

theorem callsKept_feedChanged (s : State) : CallsKept s (feedChanged s) := callsKept_of_lines (line_feedChanged s)

theorem callsKept_endRinging (g : Bool) (l : Line) (s : State) : CallsKept s (endRinging g l s) :=
  callsKept_ite (callsKept_ite ((callsKept_modRing s _).trans (callsKept_grantHead _)) (callsKept_modRing s _))
    (callsKept_modRing s _)

theorem callsKept_startTimer (s : State) : CallsKept s
    (if startDue s.ring then
      let t := s.modRing fun a => { a with converter := .ready, startTimer := none }
      if t.ring.waitList = [] then judgeKeepWarm t else grantHead t
    else s) := by
  have h := callsKept_modRing s fun a => { a with converter := .ready, startTimer := none }
  exact callsKept_ite (callsKept_ite (h.trans (callsKept_of_lines (line_judgeKeepWarm _)))
    (h.trans (callsKept_grantHead _))) (.refl s)

/-! ### Cadences and caller-ID (R141 to R147, R169 to R172) -/

theorem callsKept_stopCallerId (l : Line) (s : State) : CallsKept s (stopCallerId l s) :=
  callsKept_ite ((callsKept_modCid s l _).trans (callsKept_storePlain l _ _ _ _)) (callsKept_modCid s l _)

theorem callsKept_endCadence (l : Line) (s : State) : CallsKept s (endCadence l s) :=
  callsKept_ite ((callsKept_modCad s l endedEngine).trans (callsKept_judgeLastEnd _)) (callsKept_modCad s l endedEngine)

theorem callsKept_stopRing (l : Line) (s : State) : CallsKept s (stopRing l s) :=
  callsKept_ite ((callsKept_endRinging true l s).trans ((callsKept_stopCallerId l _).trans (callsKept_endCadence l _)))
    (.refl s)

theorem callsKept_stopTone (l : Line) (s : State) : CallsKept s (stopTone l s) :=
  callsKept_ite (callsKept_endCadence l s) (.refl s)

theorem callsKept_beginTone (l : Line) (i : Fin 64) (e : CadenceStep) (b : Option TonePair) (s : State) :
    CallsKept s (beginTone l i e b s) := by
  unfold beginTone; exact callsKept_modLine ⟨rfl, rfl, rfl, rfl⟩

theorem callsKept_beginStep (l : Line) (b : Option TonePair) (n : Nat) :
    ∀ (i : Fin 64) (s : State), CallsKept s (beginStep l b n i s) := by
  induction n with
  | zero => exact fun i s => callsKept_endCadence l s
  | succ n ih =>
    intro i s
    unfold beginStep
    dsimp only
    split
    · exact callsKept_modLine ⟨rfl, rfl, rfl, rfl⟩
    · exact callsKept_beginTone l i _ b s
    · exact (callsKept_modCad s l _).trans (callsKept_ringRequest l _)
    · exact (callsKept_modCad s l _).trans (callsKept_modCid _ l _)
    · exact callsKept_endCadence l s
    · refine (callsKept_modCad s l _).trans (callsKept_ite (callsKept_endCadence l _) ?_)
      split
      · exact ih _ _
      · exact callsKept_endCadence l _

theorem callsKept_advanceCadence (l : Line) (s : State) : CallsKept s (advanceCadence l s) := by
  unfold advanceCadence
  dsimp only
  split
  · exact (callsKept_modCad s l _).trans (callsKept_beginStep l _ _ _ _)
  · exact callsKept_endCadence l s

theorem callsKept_startCadence (k : CadenceKind) (l : Line) (i : Fin 64) (s : State) :
    CallsKept s (startCadence k l i s) := by
  unfold startCadence
  exact (callsKept_modCad s l _).trans
    (.trans (callsKept_ite (callsKept_modRing _ _) (.refl _)) (callsKept_beginStep l _ _ i _))

theorem callsKept_completeTransmission (l : Line) (s : State) : CallsKept s (completeTransmission l s) :=
  ((callsKept_modCid s l dropTransmission).trans (callsKept_storePlain l .cidDone 0 0 _)).trans
    (callsKept_ite (callsKept_advanceCadence l _) (.refl _))

theorem callsKept_endRingCadence (g : Bool) (l : Line) (s : State) : CallsKept s (endRingCadence g l s) :=
  callsKept_ite ((callsKept_endRinging g l s).trans (callsKept_endCadence l _)) (.refl s)

/-! ### Loop supervision (R97 to R114) -/

theorem callsKept_setFeedMode (l : Line) (m : FeedMode) (s : State) : CallsKept s (setFeedMode l m s) :=
  callsKept_ite (.refl s) ((callsKept_modSup s l _).trans (callsKept_feedChanged _))

theorem callsKept_wake (l : Line) (s : State) : CallsKept s (wake l s) :=
  callsKept_ite (callsKept_setFeedMode l .normal s) (.refl s)

theorem callsKept_goOffHook (l : Line) (t : Bool) (s : State) : CallsKept s (goOffHook l t s) :=
  (callsKept_modSup s l _).trans ((callsKept_wake l _).trans ((callsKept_emit l _ _ _ _ _).trans
    (callsKept_followDetectors l _)))

theorem callsKept_completeQualification (l : Line) (s : State) : CallsKept s (completeQualification l s) := by
  refine callsKept_ite ?_ (callsKept_goOffHook l false s)
  exact (callsKept_endRinging true l s).trans ((callsKept_endCadence l _).trans ((callsKept_stopCallerId l _).trans
    (callsKept_goOffHook l true _)))

theorem callsKept_settleQualification (l : Line) (s : State) : CallsKept s (settleQualification l s) :=
  callsKept_ite (callsKept_completeQualification l s) (.refl s)

theorem callsKept_emitDigit (l : Line) (s : State) : CallsKept s (emitDigit l s) :=
  (callsKept_modSup s l fun v => { v with pulseCount := 0, interdigitTimer := none }).trans
    (callsKept_ite (.refl _) (callsKept_ite (callsKept_emit l _ _ _ _ _)
      (callsKept_ite (callsKept_emit l _ _ _ _ _) (callsKept_emit l _ _ _ _ _))))

theorem callsKept_classifyBreak (l : Line) (r : BreakRecord) (b : Nat) (s : State) :
    CallsKept s (classifyBreak l r b s) := by
  refine (callsKept_modSup s l fun v => { v with state := .offHook, breakRecord := none }).trans ?_
  unfold classifyBreak
  dsimp only
  split
  · exact callsKept_modSup _ l _
  · exact callsKept_modSup _ l _
  · exact (callsKept_modSup _ l _).trans (callsKept_emit l _ _ _ _ _)
  · exact (callsKept_emitDigit l _).trans (callsKept_emit l _ _ _ _ _)

theorem callsKept_doHangUp (l : Line) (f : Nat) (s : State) : CallsKept s (doHangUp l f s) :=
  (callsKept_modSup s l _).trans ((callsKept_stopTone l _).trans ((callsKept_emit l _ _ _ _ _).trans
    (callsKept_followDetectors l _)))

theorem callsKept_offHookEdge (l : Line) (s : State) : CallsKept s (offHookEdge l s) := by
  refine (callsKept_modSup s l fun v => { v with filteredOffHook := true }).trans ?_
  unfold offHookEdge
  dsimp only
  split
  · exact callsKept_modLine ⟨rfl, rfl, rfl, rfl⟩
  · exact callsKept_ite (callsKept_classifyBreak l _ _ _)
      ((callsKept_doHangUp l _ _).trans (callsKept_modLine ⟨rfl, rfl, rfl, rfl⟩))
  · exact .refl _

theorem callsKept_declareFault (l : Line) (s : State) : CallsKept s (declareFault l s) := by
  have hseries (t : State) : CallsKept t (openSeries l t) :=
    callsKept_ite (.refl t) ((callsKept_emit l _ _ _ _ t).trans (callsKept_modSup _ l _))
  exact (callsKept_modSup s l _).trans ((callsKept_stopRing l _).trans ((callsKept_stopTone l _).trans
    ((hseries _).trans ((callsKept_modLine ⟨rfl, rfl, rfl, rfl⟩).trans (callsKept_followDetectors l _)))))

theorem callsKept_changeFeed (l : Line) (m : FeedMode) (s : State) : CallsKept s (changeFeed l m s) := by
  refine callsKept_ite (.refl s) (callsKept_ite ?_ (callsKept_ite ?_ (callsKept_setFeedMode l m s)))
  · exact (callsKept_modSup s l _).trans ((callsKept_feedChanged _).trans ((callsKept_stopRing l _).trans
      ((callsKept_stopTone l _).trans (callsKept_followDetectors l _))))
  · exact (callsKept_setFeedMode l m s).trans (callsKept_modLine ⟨rfl, rfl, rfl, rfl⟩)

/-! ### The shared table -/

theorem callsKept_writeEntry {i : Fin 80} {e0 e1 e2 e3 e4 e5 : Byte} {s t : State}
    (h : writeEntry i e0 e1 e2 e3 e4 e5 s = some t) : CallsKept s t := by
  refine callsKept_of_lines fun l => ?_
  unfold writeEntry at h
  split at h
  · obtain ⟨e, -, rfl⟩ := Option.map_eq_some_iff.mp h
    cases l <;> rfl
  · cases h
    cases l <;> rfl

end Sys2Proof.Machine
end

section
/-! SUPPORT. Mode agreement, said once for each operation: what the choice rule answers, what a restart, a change of mode and a
received word or bare frame make of the channel, and which notice tells the owner (R36 to R49). -/

namespace Sys2Proof.Machine

open Sys2Proof.Claim

/-! ### The choice rule (R38) -/

theorem hasMode_and (a b : BitVec 4) (m : Mode) : hasMode (a &&& b) m = (hasMode a m && hasMode b m) := by
  simp [hasMode]

theorem hasMode_of_bestData {set : BitVec 4} {m : Mode} (h : bestData set = some m) : hasMode set m = true := by
  unfold bestData at h
  split at h
  next hd => cases h; exact hd
  next =>
    split at h
    next hd => cases h; exact hd
    next => cases h

theorem hasMode_of_bestVoice {set : BitVec 4} {m : Mode} (h : bestVoice set = some m) : hasMode set m = true := by
  unfold bestVoice at h
  split at h
  next hv => cases h; exact hv
  next =>
    split at h
    next hv => cases h; exact hv
    next => cases h

theorem chooseVoice_common {set : BitVec 4} {d : Bool} (h : (chooseVoice set d).noCommon = false) :
    hasMode set (chooseVoice set d).mode = true := by
  unfold chooseVoice at h ⊢
  cases hb : bestVoice set with
  | some m => exact hasMode_of_bestVoice hb
  | none => rw [hb] at h; cases h

/-- Without NO_COMMON the choice is in both sets. -/
theorem chooseMode_common {a : BitVec 4} {k : MediaClass} {w : ModeWord} (h : (chooseMode a k w).noCommon = false) :
    hasMode a (chooseMode a k w).mode = true ∧ hasMode w.ability (chooseMode a k w).mode = true := by
  rw [← Bool.and_eq_true, ← hasMode_and]
  unfold chooseMode at h ⊢
  dsimp only at h ⊢
  split at h
  next hd =>
    rw [if_pos hd]
    cases hb : bestData (a &&& w.ability) with
    | some m => exact hasMode_of_bestData hb
    | none => rw [hb] at h; exact chooseVoice_common h
  next hd =>
    rw [if_neg hd]
    exact chooseVoice_common h

theorem chooseVoice_eq (set : BitVec 4) (d : Bool) : chooseVoice set d =
    { mode := if hasMode set .v16 then .v16 else .v8, dataRefused := d, noCommon := !(hasMode set .v16 || hasMode set .v8) } := by
  unfold chooseVoice bestVoice
  cases hasMode set .v16 <;> cases hasMode set .v8 <;> rfl

/-- The choice rule is R38's table. -/
theorem chosen_chooseMode (a : BitVec 4) (k : MediaClass) (w : ModeWord) (f : AgreementFlags) :
    Chosen a k w (some (chooseMode a k w).mode)
      { f with dataRefused := (chooseMode a k w).dataRefused, noCommon := (chooseMode a k w).noCommon } := by
  refine ⟨fun hd => ?_, fun hk hw => ?_⟩
  · simp only [chooseMode, if_pos hd, bestData]
    refine ⟨fun h16 => ?_, fun h16 h8 => ?_, fun h16 h8 => ?_⟩
    · simp [h16]
    · simp [h16, h8]
    · simp [h16, h8, chooseVoice_eq]
  · have hd : ¬ (k = .data ∨ w.mediaClass = .data) := by simp [hk, hw]
    simp [chooseMode, if_neg hd, chooseVoice_eq]

/-! ### Changes of the channel -/

/-- A channel whose mode has changed (R49). -/
def modeChanged (m : Mode) (c : MediaChannel) : MediaChannel :=
  { c with mode := m
           reprime := c.reprime || (decide (c.mode.mediaClass = .voice) && decide (m.mediaClass = .data)) }

theorem modeChanged_same {m : Mode} {c : MediaChannel} (h : c.mode = m) : modeChanged m c = c := by
  subst h
  have : (decide (c.mode.mediaClass = .voice) && decide (c.mode.mediaClass = .data)) = false := by
    cases c.mode <;> rfl
  simp [modeChanged, this]

/-- A change to V8 asks for no re-prime (R49). -/
theorem modeChanged_v8 (c : MediaChannel) : modeChanged .v8 c = { c with mode := .v8 } := by
  simp [modeChanged, Mode.mediaClass]

theorem line_changeMode (l : Line) (m : Mode) (s : State) :
    (changeMode l m s).line l = { s.line l with chan := modeChanged m (s.line l).chan } := by
  unfold changeMode
  split
  next h => rw [modeChanged_same h]
  next => rw [line_latchOwner, line_modChan_same]; rfl

theorem lineWork_modChan (l : Line) (f : MediaChannel → MediaChannel) (s : State) : LineWork l s (s.modChan l f) :=
  lineWork_modLine l _ s

theorem lineWork_changeMode (l : Line) (m : Mode) (s : State) : LineWork l s (changeMode l m s) := by
  unfold changeMode
  split
  · exact .refl l s
  · exact (lineWork_modChan ..).trans (lineWork_latchOwner ..)

theorem recompute_some {c : MediaChannel} {w : ModeWord} (h : c.farWord = some w) : recompute c =
    { c with
      choice := some (chooseMode c.ability c.requestedClass w).mode
      flags := { c.flags with
        dataRefused := (chooseMode c.ability c.requestedClass w).dataRefused
        noCommon := (chooseMode c.ability c.requestedClass w).noCommon } } := by
  simp only [recompute, h]

theorem recompute_none {c : MediaChannel} (h : c.farWord = none) : recompute c = c := by simp only [recompute, h]

theorem recordWord_eq (w : ModeWord) (c : MediaChannel) : recordWord w c =
    { c with
      farWord := some w
      choice := some (chooseMode c.ability c.requestedClass w).mode
      flags := { c.flags with
        dataRefused := (chooseMode c.ability c.requestedClass w).dataRefused
        noCommon := (chooseMode c.ability c.requestedClass w).noCommon } } := rfl

/-! ### Received words and bare frames (R39 to R43) -/

theorem line_wordInAdvertise (l : Line) (w : ModeWord) (s : State) : (wordInAdvertise l w s).line l =
    { s.line l with chan := { recordWord w { (s.line l).chan with bareCount := 0 } with agreement := .matched } } := by
  rw [wordInAdvertise, line_setAgreement, line_modChan_same]

theorem lineWork_wordInAdvertise (l : Line) (w : ModeWord) (s : State) : LineWork l s (wordInAdvertise l w s) :=
  (lineWork_modChan ..).trans (lineWork_setAgreement ..)

/-- The owner is told of a match (R44). -/
theorem wordInAdvertise_told {l : Line} {w : ModeWord} {s : State} {p : Port} (h : (s.line l).chan.agreement ≠ .matched)
    (ho : (s.line l).owner = some p) :
    isLatched ((wordInAdvertise l w s).port p).flags (.agreementChanged l) = true :=
  setAgreement_told (by rw [line_modChan_same]; exact h) (by rw [line_modChan_same]; exact ho)

/-- A channel in which a word with ACK has confirmed the agreement (R40). -/
def confirmedChan (c : MediaChannel) : MediaChannel :=
  { modeChanged (c.choice.getD c.mode) { c with agreement := .confirmed } with agreementTimer := none }

theorem wordInMatched_other {l : Line} {w : ModeWord} {s : State} (h : sameWord (s.line l).chan.farWord w = false) :
    wordInMatched l w s = s.modChan l (recordWord w) := by simp [wordInMatched, h]

theorem wordInMatched_same {l : Line} {w : ModeWord} {s : State} (h : sameWord (s.line l).chan.farWord w = true)
    (ha : w.ack = false) : wordInMatched l w s = s := by simp [wordInMatched, h, ha]

/-- The state in which a word with ACK has confirmed the agreement (R40). -/
def confirm (l : Line) (s : State) : State :=
  (changeMode l ((s.line l).chan.choice.getD (s.line l).chan.mode) (setAgreement l .confirmed s)).modChan l fun c =>
    { c with agreementTimer := none }

theorem wordInMatched_ack {l : Line} {w : ModeWord} {s : State} (h : sameWord (s.line l).chan.farWord w = true)
    (ha : w.ack = true) : wordInMatched l w s = confirm l s := by simp [wordInMatched, confirm, h, ha]

theorem line_confirm (l : Line) (s : State) :
    (confirm l s).line l = { s.line l with chan := confirmedChan (s.line l).chan } := by
  rw [confirm, line_modChan_same, line_changeMode, line_setAgreement]
  rfl

theorem lineWork_confirm (l : Line) (s : State) : LineWork l s (confirm l s) :=
  (lineWork_setAgreement ..).trans ((lineWork_changeMode ..).trans (lineWork_modChan ..))

theorem confirm_told {l : Line} {s : State} {p : Port} (h : (s.line l).chan.agreement ≠ .confirmed)
    (ho : (s.line l).owner = some p) : isLatched ((confirm l s).port p).flags (.agreementChanged l) = true :=
  ((lineWork_changeMode ..).trans (lineWork_modChan ..)).stays _ _ (setAgreement_told h ho)

/-- A word received in MATCHED confirms, changes nothing, or is recorded (R40). -/
theorem wordInMatched_cases (l : Line) (w : ModeWord) (s : State) :
    wordInMatched l w s = confirm l s ∨ wordInMatched l w s = s ∨ wordInMatched l w s = s.modChan l (recordWord w) := by
  cases h : sameWord (s.line l).chan.farWord w with
  | false => exact .inr (.inr (wordInMatched_other h))
  | true =>
    cases ha : w.ack with
    | false => exact .inr (.inl (wordInMatched_same h ha))
    | true => exact .inl (wordInMatched_ack h ha)

theorem lineWork_wordInMatched (l : Line) (w : ModeWord) (s : State) : LineWork l s (wordInMatched l w s) := by
  obtain h | h | h := wordInMatched_cases l w s <;> rw [h]
  · exact lineWork_confirm l s
  · exact .refl l s
  · exact lineWork_modChan ..

/-- A restart, and the match that a word then makes (R41). -/
theorem lineWork_rematch (l : Line) (w : ModeWord) (s : State) :
    LineWork l s (wordInAdvertise l w (restartAgreement l s)) :=
  (lineWork_restartAgreement l s).trans (lineWork_wordInAdvertise l w _)

theorem lineWork_receiveWord (l : Line) (w : ModeWord) (s : State) : LineWork l s (receiveWord l w s) := by
  unfold receiveWord
  split
  · exact lineWork_wordInAdvertise l w s
  · exact lineWork_wordInMatched l w s
  · split
    · exact .refl l s
    · exact lineWork_rematch l w s
  · exact lineWork_rematch l w s

/-- A channel PRESUMED in V8 (R42). -/
def presumedChan (c : MediaChannel) : MediaChannel :=
  { c with agreement := .presumed, mode := .v8, agreementTimer := none }

theorem line_enterPresumed (l : Line) (f : MediaChannel → MediaChannel) (s : State) :
    (enterPresumed l f s).line l = { s.line l with chan := f (presumedChan (s.line l).chan) } := by
  rw [enterPresumed, line_modChan_same, line_changeMode, line_setAgreement, modeChanged_v8]
  rfl

theorem lineWork_enterPresumed (l : Line) (f : MediaChannel → MediaChannel) (s : State) :
    LineWork l s (enterPresumed l f s) :=
  (lineWork_setAgreement ..).trans ((lineWork_changeMode ..).trans (lineWork_modChan ..))

theorem enterPresumed_told {l : Line} {f : MediaChannel → MediaChannel} {s : State} {p : Port}
    (h : (s.line l).chan.agreement ≠ .presumed) (ho : (s.line l).owner = some p) :
    isLatched ((enterPresumed l f s).port p).flags (.agreementChanged l) = true :=
  ((lineWork_changeMode ..).trans (lineWork_modChan ..)).stays _ _ (setAgreement_told h ho)

/-- A bare frame in ADVERTISE is counted. -/
def countBare (l : Line) (s : State) : State :=
  s.modChan l fun c => { c with bareCount := (s.line l).chan.bareCount + 1 }

/-- The agreement is PRESUMED for a silent far end (R42). -/
def presumeSilent (l : Line) (s : State) : State :=
  enterPresumed l (fun c => { c with flags := { c.flags with farSilent := true } }) (countBare l s)

theorem receiveBare_outside {l : Line} {s : State} (h : (s.line l).chan.agreement ≠ .advertise) : receiveBare l s = s := by
  unfold receiveBare
  split
  next ha => exact absurd ha h
  next => rfl

theorem receiveBare_counts {l : Line} {s : State} (h : (s.line l).chan.agreement = .advertise)
    (hn : (s.line l).chan.bareCount < 9) : receiveBare l s = countBare l s := by
  simp only [receiveBare, h]
  exact if_pos (show _ < 10 by omega)

theorem receiveBare_presumes {l : Line} {s : State} (h : (s.line l).chan.agreement = .advertise)
    (hn : 9 ≤ (s.line l).chan.bareCount) : receiveBare l s = presumeSilent l s := by
  simp only [receiveBare, h]
  exact if_neg (show ¬ _ < 10 by omega)

theorem lineWork_countBare (l : Line) (s : State) : LineWork l s (countBare l s) := lineWork_modChan ..

theorem lineWork_presumeSilent (l : Line) (s : State) : LineWork l s (presumeSilent l s) :=
  (lineWork_countBare l s).trans (lineWork_enterPresumed ..)

theorem line_countBare (l : Line) (s : State) : (countBare l s).line l =
    { s.line l with chan := { (s.line l).chan with bareCount := (s.line l).chan.bareCount + 1 } } := line_modChan_same ..

theorem line_presumeSilent (l : Line) (s : State) : (presumeSilent l s).line l =
    { s.line l with chan := { (s.line l).chan with
        agreement := .presumed, mode := .v8, agreementTimer := none
        bareCount := (s.line l).chan.bareCount + 1
        flags := { (s.line l).chan.flags with farSilent := true } } } := by
  rw [presumeSilent, line_enterPresumed, line_countBare]
  rfl

/-- A bare frame changes nothing, is counted, or makes the agreement PRESUMED (R42). -/
theorem receiveBare_cases (l : Line) (s : State) :
    receiveBare l s = s ∨ ((s.line l).chan.agreement = .advertise ∧ receiveBare l s = countBare l s)
      ∨ receiveBare l s = presumeSilent l s := by
  by_cases ha : (s.line l).chan.agreement = .advertise
  · by_cases hn : (s.line l).chan.bareCount < 9
    · exact .inr (.inl ⟨ha, receiveBare_counts ha hn⟩)
    · exact .inr (.inr (receiveBare_presumes ha (by omega)))
  · exact .inl (receiveBare_outside ha)

theorem lineWork_receiveBare (l : Line) (s : State) : LineWork l s (receiveBare l s) := by
  obtain h | ⟨-, h⟩ | h := receiveBare_cases l s <;> rw [h]
  · exact .refl l s
  · exact lineWork_countBare l s
  · exact lineWork_presumeSilent l s

theorem lineWork_examineFrame (l : Line) (w : Option ModeWord) (s : State) : LineWork l s (examineFrame l w s) := by
  cases w with
  | some w => exact lineWork_receiveWord l w s
  | none => exact lineWork_receiveBare l s

/-! ### Upspeed (R45) -/

/-- DATA is requested of a channel (R45). -/
def dataRequested (c : MediaChannel) : MediaChannel := { c with requestedClass := .data }

theorem upspeed_no {l : Line} {t : UpspeedTrigger} {s : State} (h : upspeedApplies (s.line l) t = false) :
    upspeed l t s = s := by simp [upspeed, h]

theorem upspeed_presumed {l : Line} {t : UpspeedTrigger} {s : State} (h : upspeedApplies (s.line l) t = true)
    (ha : (s.line l).chan.agreement = .presumed) : upspeed l t s = changeMode l .d8 (s.modChan l dataRequested) := by
  simp only [upspeed, h, ha, if_true]
  rfl

theorem upspeed_restarts {l : Line} {t : UpspeedTrigger} {s : State} (h : upspeedApplies (s.line l) t = true)
    (ha : (s.line l).chan.agreement ≠ .presumed) : upspeed l t s = restartAgreement l (s.modChan l dataRequested) := by
  simp only [upspeed, h, if_true, if_neg ha]
  rfl

theorem lineWork_upspeed (l : Line) (t : UpspeedTrigger) (s : State) : LineWork l s (upspeed l t s) := by
  cases h : upspeedApplies (s.line l) t with
  | false => rw [upspeed_no h]; exact .refl l s
  | true =>
    by_cases ha : (s.line l).chan.agreement = .presumed
    · rw [upspeed_presumed h ha]; exact (lineWork_modChan ..).trans (lineWork_changeMode ..)
    · rw [upspeed_restarts h ha]; exact (lineWork_modChan ..).trans (lineWork_restartAgreement ..)

end Sys2Proof.Machine
end

section
/-! SUPPORT. Settled: every step keeps an agreed mode in both ability sets. -/

namespace Sys2Proof.Machine

open Sys2Proof.Claim

/-! ### The channel through the playout -/

@[simp] theorem chan_arrive (x : LineState) (r : FrameRecord) : (arrive x r).chan = x.chan := by
  unfold arrive; cases classify x.buf r.sequence <;> simp only [applyArrival, storeFrame]

@[simp] theorem chan_arriveAll (rs : List FrameRecord) : ∀ x : LineState, (arriveAll x rs).1.chan = x.chan := by
  induction rs with
  | nil => exact fun _ => rfl
  | cons r rs ih => exact fun x => by simp only [arriveAll, ih, chan_arrive]

@[simp] theorem chan_spliceAppend (x : LineState) (r : FrameRecord) : (spliceAppend x r).chan = x.chan := by
  unfold spliceAppend; split <;> rfl

@[simp] theorem chan_switchStream (x : LineState) : (switchStream x).1.chan = x.chan := by
  simp only [switchStream, chan_arriveAll]

@[simp] theorem chan_primingCheck (x : LineState) : (primingCheck x).chan = x.chan := by
  unfold primingCheck
  dsimp only
  split
  · split <;> rfl
  · rfl

theorem chan_primingStart (x : LineState) : (primingStart x).1.chan = x.chan := by
  unfold primingStart; split <;> simp only [chan_primingCheck, chan_switchStream]

theorem chan_passOver (x : LineState) : (passOver x).1.chan = x.chan := by
  unfold passOver
  dsimp only
  split <;> rfl

theorem chan_playingStart (x : LineState) : (playingStart x).1.chan = x.chan := by
  unfold playingStart
  split
  · rfl
  · split
    · simp only [chan_primingCheck, chan_switchStream]
    · exact chan_passOver x

theorem chan_drainingStart (x : LineState) : (drainingStart x).chan = x.chan := by
  unfold drainingStart; split <;> rfl

/-- A frame-start changes nothing of the channel but its re-prime request (R60). -/
theorem chan_startPeriod (x : LineState) : ∃ r, (startPeriod x).1.chan = { x.chan with reprime := r } := by
  have hact : ∃ r, (actOnReprime x).chan = { x.chan with reprime := r } := by
    unfold actOnReprime
    split
    · dsimp only
      split <;> exact ⟨false, rfl⟩
    · exact ⟨_, rfl⟩
  obtain ⟨r, hr⟩ := hact
  unfold startPeriod
  split
  · exact ⟨_, rfl⟩
  · dsimp only
    split
    · exact ⟨r, (chan_primingStart _).trans hr⟩
    · exact ⟨r, (chan_playingStart _).trans hr⟩
    · exact ⟨r, (chan_playingStart _).trans hr⟩
    · exact ⟨r, (chan_drainingStart _).trans hr⟩
    · exact ⟨r, hr⟩

/-! ### Agreed modes -/

/-- Nothing is asked of a channel that is neither MATCHED nor CONFIRMED. -/
theorem agreementSound_of_unagreed {c : MediaChannel} (hm : c.agreement ≠ .matched) (hc : c.agreement ≠ .confirmed) :
    AgreementSound c := fun _ => ⟨fun h => absurd h hm, fun h => absurd h hc⟩

/-- The choice against a recorded word is in both sets, unless NO_COMMON is set (R38). -/
theorem agreementSound_recorded (w : ModeWord) {c : MediaChannel} (ha : c.agreement = .matched) :
    AgreementSound (recordWord w c) := by
  intro hn
  rw [recordWord_eq] at hn ⊢
  refine ⟨fun _ => ?_, fun h => absurd (ha.symm.trans h) nofun⟩
  have hboth := chooseMode_common hn
  exact ⟨w, _, rfl, rfl, hboth.1, hboth.2⟩

/-- A word with ACK confirms the choice as the current mode (R40). -/
theorem agreementSound_confirmed {c : MediaChannel} (h : AgreementSound c) (ha : c.agreement = .matched) :
    AgreementSound (confirmedChan c) := by
  intro hn
  obtain ⟨w, m, hw, hm, hlocal, hfar⟩ := (h hn).1 ha
  refine ⟨fun h => absurd (show Agreement.confirmed = .matched from h) nofun, fun _ => ⟨w, hw, ?_⟩⟩
  simp only [confirmedChan, modeChanged, hm]
  exact ⟨hlocal, hfar⟩

/-- A new local set keeps an agreed mode where it holds the current mode of a CONFIRMED agreement (R47). -/
theorem agreementSound_newAbility {c : MediaChannel} {a : BitVec 4} (h : AgreementSound c)
    (hc : c.agreement = .confirmed → c.flags.noCommon = false → hasMode a c.mode = true) :
    AgreementSound (if c.agreement = .matched then recompute { c with ability := a } else { c with ability := a }) := by
  split
  next hm =>
    rcases hw : c.farWord with _ | w
    · intro hn
      have heq : recompute { c with ability := a } = { c with ability := a } := recompute_none hw
      rw [← hw, heq] at hn
      obtain ⟨w, _, hw', -⟩ := (h hn).1 hm
      rw [hw] at hw'
      cases hw'
    · exact agreementSound_recorded w (c := { c with ability := a }) hm
  next hm =>
    refine fun hn => ⟨fun h => absurd h hm, fun hk => ?_⟩
    obtain ⟨w, hw, -, hfar⟩ := (h hn).2 hk
    exact ⟨w, hw, hc hk hn, hfar⟩

/-! ### Work that keeps agreed modes -/

/-- From `s` to `u` a line whose agreed mode is in both ability sets stays such a line. -/
structure Agrees (s u : State) : Prop where
  kept : ∀ l, AgreementSound (s.line l).chan → AgreementSound (u.line l).chan

theorem Agrees.refl (s : State) : Agrees s s := ⟨fun _ h => h⟩

theorem Agrees.trans {s t u : State} (h : Agrees s t) (k : Agrees t u) : Agrees s u :=
  ⟨fun l hs => k.kept l (h.kept l hs)⟩

theorem agrees_ite {c : Prop} [Decidable c] {s u v : State} (h : Agrees s u) (k : Agrees s v) :
    Agrees s (if c then u else v) := by
  split
  · exact h
  · exact k

/-- An accepted work leaves its own state. -/
theorem Agrees.accepted {s t : State} (h : Agrees s t) (data : List Byte) : Agrees s (accept t data).state := h

theorem CallsKept.agrees {s u : State} (h : CallsKept s u) : Agrees s u :=
  ⟨fun l hs => by rw [(h l).1]; exact hs⟩

theorem agrees_modPort (s : State) (p : Port) (f : PortLink → PortLink) : Agrees s (s.modPort p f) :=
  (callsKept_modPort s p f).agrees

theorem agrees_latchOwner (l : Line) (n : Notice) (s : State) : Agrees s (latchOwner l n s) :=
  (callsKept_latchOwner l n s).agrees

theorem agrees_followDetectors (l : Line) (s : State) : Agrees s (followDetectors l s) :=
  (callsKept_followDetectors l s).agrees

theorem agrees_modLine {s : State} {l : Line} {f : LineState → LineState}
    (h : AgreementSound (s.line l).chan → AgreementSound (f (s.line l)).chan) : Agrees s (s.modLine l f) where
  kept m hs := by
    rw [line_modLine]
    split
    next hm => subst hm; exact h hs
    next => exact hs

theorem agrees_modCtr (s : State) (l : Line) (f : ChannelCounters → ChannelCounters) : Agrees s (s.modCtr l f) :=
  agrees_modLine id

/-- Work on one line keeps agreed modes where it keeps that line's. -/
theorem LineWork.agrees {l : Line} {s u : State} (h : LineWork l s u)
    (hl : AgreementSound (s.line l).chan → AgreementSound (u.line l).chan) : Agrees s u where
  kept m hs := by
    by_cases hm : m = l
    · subst hm; exact hl hs
    · rw [eq_otherLine hm, h.other, ← eq_otherLine hm]; exact hs

/-! ### Mode agreement (R36 to R49) -/

theorem agrees_restartAgreement (l : Line) (s : State) : Agrees s (restartAgreement l s) :=
  (lineWork_restartAgreement l s).agrees fun _ => by
    rw [line_restartAgreement]; exact agreementSound_of_unagreed nofun nofun

theorem agrees_wordInAdvertise (l : Line) (w : ModeWord) (s : State) : Agrees s (wordInAdvertise l w s) :=
  (lineWork_wordInAdvertise l w s).agrees fun _ => by
    rw [line_wordInAdvertise]
    exact agreementSound_recorded w (c := { (s.line l).chan with bareCount := 0, agreement := .matched }) rfl

theorem agrees_wordInMatched {l : Line} {s : State} (h : (s.line l).chan.agreement = .matched) (w : ModeWord) :
    Agrees s (wordInMatched l w s) := by
  obtain hc | hc | hc := wordInMatched_cases l w s <;> rw [hc]
  · exact (lineWork_confirm l s).agrees fun hs => by rw [line_confirm]; exact agreementSound_confirmed hs h
  · exact .refl s
  · exact agrees_modLine fun _ => agreementSound_recorded w h

theorem agrees_examineFrame (l : Line) (w : Option ModeWord) (s : State) : Agrees s (examineFrame l w s) := by
  cases w with
  | none =>
    obtain hc | ⟨ha, hc⟩ | hc := receiveBare_cases l s <;> rw [examineFrame, hc]
    · exact .refl s
    · exact (lineWork_countBare l s).agrees fun _ => by
        rw [line_countBare]; exact agreementSound_of_unagreed (by simp [ha]) (by simp [ha])
    · exact (lineWork_presumeSilent l s).agrees fun _ => by
        rw [line_presumeSilent]; exact agreementSound_of_unagreed nofun nofun
  | some w =>
    have hrematch := (agrees_restartAgreement l s).trans (agrees_wordInAdvertise l w _)
    rw [examineFrame, receiveWord]
    split
    · exact agrees_wordInAdvertise l w s
    next h => exact agrees_wordInMatched h w
    · exact agrees_ite (.refl s) hrematch
    · exact hrematch

theorem agrees_enterPresumed_timeout (l : Line) (s : State) :
    Agrees s (enterPresumed l (fun c => { c with choice := none, flags := { c.flags with timeout := true } }) s) :=
  (lineWork_enterPresumed ..).agrees fun _ => by
    rw [line_enterPresumed]; exact agreementSound_of_unagreed nofun nofun

theorem agrees_upspeed (l : Line) (t : UpspeedTrigger) (s : State) : Agrees s (upspeed l t s) := by
  have hdata : Agrees s (s.modChan l dataRequested) := agrees_modLine id
  cases h : upspeedApplies (s.line l) t with
  | false => rw [upspeed_no h]; exact .refl s
  | true =>
    by_cases ha : (s.line l).chan.agreement = .presumed
    · rw [upspeed_presumed h ha]
      refine hdata.trans ((lineWork_changeMode ..).agrees fun _ => ?_)
      rw [line_changeMode, line_modChan_same]
      exact agreementSound_of_unagreed (by simp [modeChanged, dataRequested, ha]) (by simp [modeChanged, dataRequested, ha])
    · rw [upspeed_restarts h ha]
      exact hdata.trans (agrees_restartAgreement l _)

theorem agrees_applyFindings (l : Line) (fs : List Finding) : ∀ s : State, Agrees s (applyFindings l fs s) := by
  induction fs with
  | nil => exact fun s => .refl s
  | cons f fs ih =>
    intro s
    refine .trans ?_ (ih (applyFinding l s f))
    unfold applyFinding
    cases f.trigger with
    | some k => exact (agrees_upspeed l k s).trans (callsKept_storePlain l _ _ _ _).agrees
    | none => exact (callsKept_storePlain l _ _ _ s).agrees

/-! ### The Media Channel and its owner -/

theorem agrees_changeOwner (l : Line) (new : Option Port) (s : State) : Agrees s (changeOwner l new s) := by
  have hleave (o : Option Port) (t : State) : Agrees t (leavePort l o t) := by
    cases o with
    | some p =>
      have hpurge (u : State) : Agrees u (purgeMedia p l u) := by
        unfold purgeMedia
        exact (agrees_modPort u p _).trans (agrees_modCtr _ l _)
      exact (agrees_modPort t p _).trans (hpurge _)
    | none => exact .refl t
  have hchannel (t : State) : Agrees t (channelAtChange l t) :=
    agrees_ite (.refl t) ((agrees_modLine (f := pendSplice) id).trans (agrees_restartAgreement l _))
  rw [changeOwner_eq]
  exact (agrees_modLine (f := reowned new) id).trans ((hleave _ _).trans ((hchannel _).trans
    (callsKept_of_lines fun m => line_noticeQueued l m _).agrees))

theorem agrees_closeNow (l : Line) (s : State) : Agrees s (closeNow l s) :=
  (agrees_modLine (f := closeLine) id).trans (agrees_followDetectors l _)

theorem agrees_resetLine (g : Bool) (l : Line) (s : State) : Agrees s (resetLine g l s) :=
  (callsKept_endRingCadence g l s).agrees.trans (agrees_modLine (f := resetLineState) id)

theorem agrees_routeUplink (l : Line) (f : MediaFrame) (s : State) : Agrees s (routeUplink l f s) := by
  unfold routeUplink
  split
  · have hroom (p : Port) : Agrees s (makeRoom p s) := by
      refine agrees_ite (.refl s) ?_
      dsimp only
      split
      · exact (agrees_modPort s p _).trans (agrees_modCtr _ _ _)
      · exact agrees_modPort s p _
    exact (hroom _).trans ((agrees_modPort _ _ _).trans (agrees_modCtr _ l _))
  · exact agrees_modCtr s l _

theorem agrees_beginPeriod (l : Line) (s : State) : Agrees s (beginPeriod l s) := by
  have hstart : Agrees s (s.modLine l fun _ => (startPeriod (s.line l)).1) := agrees_modLine fun h => by
    obtain ⟨r, hr⟩ := chan_startPeriod (s.line l)
    rw [hr]; exact h
  have hnotice := agrees_ite (c := (startPeriod (s.line l)).2 = true)
    (hstart.trans (agrees_latchOwner l (.playoutAlert l) _)) hstart
  exact agrees_ite (hnotice.trans (agrees_followDetectors l _)) hnotice

theorem agrees_routeFrame (p : Port) (f : MediaFrame) (s : State) : Agrees s (routeFrame p f s) := by
  refine agrees_ite (agrees_ite ?_ (agrees_modCtr s _ _)) (agrees_modCtr s _ _)
  refine (agrees_examineFrame f.line f.word s).trans ?_
  have harrive (t : State) (r : FrameRecord) : Agrees t (t.modLine f.line fun x => arrive x r) :=
    agrees_modLine fun h => by rw [chan_arrive]; exact h
  unfold deliverFrame
  refine agrees_ite (agrees_modLine fun h => ?_) (agrees_ite ((harrive _ _).trans (agrees_latchOwner ..)) (harrive _ _))
  rw [chan_spliceAppend]; exact h

theorem agrees_lineSample {rx1 rx2 : Sample} {s : State} :
    Agrees s (passBlock (passMillisecond { s with
      line1 := sampleLine rx1 s.line1, line2 := sampleLine rx2 s.line2, ring := laterMoment s.ring
      tick := (s.tick + 1) % 40 })) := by
  refine ⟨fun l hs => ?_⟩
  rw [line_lineSample (rx := if l = .one then rx1 else rx2) l (by rintro rfl; rfl) (by rintro rfl; rfl)]
  show AgreementSound (gatherSample _ (s.line l))
  unfold gatherSample
  dsimp only
  split <;> exact hs

/-! ### Commands -/

/-- The work of every row that needs ownership. -/
theorem OwnerWork.agrees {p : Port} {w : Line → State → Answer} (h : OwnerWork p w) (l : Line) (s : State) :
    Agrees s (w l s).state := by
  have hclose : Agrees s (closeOnLine l s).state := by
    unfold closeOnLine
    split
    · exact .refl s
    · exact agrees_closeNow l s
  have hdrain : Agrees s (drainOnLine l s).state := by
    unfold drainOnLine
    split
    · exact .refl s
    · exact .refl s
    · exact agrees_modLine (f := drainLine) id
  cases h with
  | release => exact agrees_changeOwner l none s
  | handOver => exact Agrees.accepted ((agrees_changeOwner l _ s).trans (agrees_modPort _ _ _)) _
  | readEvents => exact Agrees.accepted (agrees_modLine id) _
  | lineReset => exact agrees_resetLine true l s
  | setFeed mode =>
    unfold feedOnLine
    split
    · exact .refl s
    · split
      · exact .refl s
      · exact (callsKept_changeFeed l _ s).agrees
  | setHookTiming t =>
    unfold timingOnLine
    split
    · exact Agrees.accepted (callsKept_modSup s l _).agrees _
    · exact .refl s
  | ringStart step =>
    unfold ringStartOnLine
    split
    · exact .refl s
    · split
      · exact ((callsKept_stopRing l s).trans ((callsKept_wake l _).trans ((callsKept_startCadence .ring l _ _).trans
          (callsKept_settleQualification l _)))).agrees
      · exact .refl s
  | ringStop => exact (callsKept_ite ((callsKept_stopRing l s).trans (callsKept_settleQualification l _)) (.refl s)).agrees
  | toneStart step =>
    unfold toneStartOnLine
    split
    · split
      · exact ((callsKept_stopTone l s).trans (callsKept_startCadence .tone l _ _)).agrees
      · exact .refl s
    · exact .refl s
  | toneStop => exact (callsKept_stopTone l s).agrees
  | loadCallerId f =>
    unfold loadOnLine
    dsimp only
    split
    · exact .refl s
    · split
      · exact Agrees.accepted (callsKept_modCid s l _).agrees _
      · exact .refl s
  | channelOpen ability q =>
    unfold openOnLine
    split
    · exact .refl s
    · split
      · exact Agrees.accepted ((agrees_modLine (f := openLine q _) fun _ => agreementSound_of_unagreed nofun nofun).trans
          (agrees_followDetectors l _)) _
      · exact .refl s
  | channelClose => exact hclose
  | channelDrain => exact hdrain
  | channelCloseBy option =>
    unfold closeByOption
    split
    · exact hclose
    · split
      · exact hdrain
      · split <;> exact .refl s
  | channelFlush =>
    unfold flushOnLine
    split
    · exact .refl s
    · exact Agrees.accepted (agrees_modLine id) _
  | setAbility ability =>
    unfold abilityOnLine
    dsimp only
    split
    · exact .refl s
    · split
      · exact .refl s
      next hstuck =>
        split
        · refine Agrees.accepted (agrees_modLine fun h => agreementSound_newAbility h fun hc hn => ?_) _
          by_contra hlacks
          exact hstuck ⟨hc, hn, by simpa using hlacks⟩
        · exact .refl s
  | setClass mediaClass =>
    unfold classOnLine
    split
    · exact .refl s
    · split
      · exact (agrees_modLine id).trans (agrees_restartAgreement l _)
      · exact .refl s
  | agreementRestart =>
    unfold restartOnLine
    split
    · exact .refl s
    · exact agrees_restartAgreement l s

theorem agrees_ownerCommand {p : Port} {w : Line → State → Answer} (h : OwnerWork p w) (field : Byte) (s : State) :
    Agrees s (ownerCommand p field w s).state := by
  unfold ownerCommand
  split
  · split
    · exact h.agrees _ s
    · exact .refl s
  · split
    · split
      · exact .refl s
      · exact h.agrees .one s
      · exact h.agrees .two s
      · exact (h.agrees .one s).trans (h.agrees .two _)
    · exact .refl s

theorem agrees_doClaim (p : Port) (line owner : Byte) (g : Word) (s : State) :
    Agrees s (doClaim p line owner g s).state := by
  unfold doClaim
  split
  · unfold claimLine
    split
    · exact agrees_ite (.refl s) (agrees_changeOwner ..)
    · exact .refl s
  · exact .refl s
  · exact .refl s

theorem agrees_doReadLine (line : Byte) (s : State) : Agrees s (doReadLine line s).state := by
  unfold doReadLine reportCommand
  split
  · exact .refl s
  · split <;> exact .refl s

theorem agrees_doReadCounters (line clear : Byte) (s : State) : Agrees s (doReadCounters line clear s).state := by
  have hclear (l : Line) (t : State) : Agrees t (clearCounters clear l t) := agrees_ite (.refl t) (agrees_modCtr t l _)
  unfold doReadCounters reportCommand
  split
  · exact hclear _ s
  · split
    · exact (hclear _ s).trans (hclear _ _)
    · exact .refl s

theorem agrees_doLoadCallerId (p : Port) (c : Command) (s : State) : Agrees s (doLoadCallerIdBytes p c s).state := by
  unfold doLoadCallerIdBytes
  split
  · exact .refl s
  · split
    · unfold doLoadCallerId
      split
      · exact .refl s
      · exact agrees_ownerCommand (.loadCallerId _) _ s
    · exact .refl s

theorem agrees_doDeviceReset (p : Port) (s : State) : Agrees s (doDeviceReset p s).state := by
  unfold doDeviceReset
  split
  · exact .refl s
  · refine ⟨fun l _ => ?_⟩
    have hchan : ((resetDevice p s).line l).chan = MediaChannel.reset := by
      rw [line_resetDevice, dropOwner]
      split <;> rfl
    show AgreementSound ((resetDevice p s).line l).chan
    rw [hchan]
    exact agreementSound_of_unagreed nofun nofun

theorem agrees_doTableWrite (p : Port) (e0 e1 e2 e3 e4 e5 : Byte) (s : State) :
    Agrees s (doTableWrite p e0 e1 e2 e3 e4 e5 s).state := by
  unfold doTableWrite
  dsimp only
  split
  next h => exact Agrees.accepted ((callsKept_writeEntry h).agrees.trans (agrees_modPort _ _ _)) _
  next => exact .refl s

theorem agrees_doTablePointer (p : Port) (i : Byte) (s : State) : Agrees s (doTablePointer p i s).state := by
  unfold doTablePointer
  split
  · exact Agrees.accepted (agrees_modPort s p _) _
  · exact .refl s

theorem agrees_doTableRead (p : Port) (s : State) : Agrees s (doTableRead p s).state :=
  Agrees.accepted (agrees_ite (.refl s) (agrees_modPort s p _)) _

theorem agrees_doTableHold (p : Port) (s : State) : Agrees s (doTableHold p s).state := by
  unfold doTableHold
  split
  · exact .refl s
  · exact Agrees.accepted (agrees_modPort s p _) _

theorem agrees_doTableEnd (p : Port) (s : State) : Agrees s (doTableEnd p s).state := by
  unfold doTableEnd
  split
  · exact Agrees.accepted (agrees_modPort s p _) _
  · exact .refl s

/-- The execution of every known command. -/
theorem agrees_run (k : CommandCode) (p : Port) (c : Command) (s : State) : Agrees s (run k p c s).state := by
  cases k with
  | nop => exact .refl s
  | readNotices => exact Agrees.accepted (agrees_modPort s p _) _
  | setNoticeMask => exact Agrees.accepted (agrees_modPort s p _) _
  | claim => exact agrees_doClaim ..
  | release => exact agrees_ownerCommand .release ..
  | handOver => exact agrees_ownerCommand .handOver ..
  | readLine => exact agrees_doReadLine ..
  | readEvents => exact agrees_ownerCommand .readEvents ..
  | lineReset => exact agrees_ownerCommand .lineReset ..
  | deviceReset => exact agrees_doDeviceReset ..
  | setFeed => exact agrees_ownerCommand (.setFeed _) ..
  | setHookTiming => exact agrees_ownerCommand (.setHookTiming _) ..
  | ringStart => exact agrees_ownerCommand (.ringStart _) ..
  | ringStop => exact agrees_ownerCommand .ringStop ..
  | toneStart => exact agrees_ownerCommand (.toneStart _) ..
  | toneStop => exact agrees_ownerCommand .toneStop ..
  | loadCallerId => exact agrees_doLoadCallerId ..
  | channelOpen => exact agrees_ownerCommand (.channelOpen _ _) ..
  | channelClose => exact agrees_ownerCommand (.channelCloseBy _) ..
  | channelFlush => exact agrees_ownerCommand .channelFlush ..
  | setAbility => exact agrees_ownerCommand (.setAbility _) ..
  | setClass => exact agrees_ownerCommand (.setClass _) ..
  | agreementRestart => exact agrees_ownerCommand .agreementRestart ..
  | readCounters => exact agrees_doReadCounters ..
  | tablePointer => exact agrees_doTablePointer ..
  | tableWrite => exact agrees_doTableWrite ..
  | tableRead => exact agrees_doTableRead ..
  | tableHold => exact agrees_doTableHold ..
  | tableEnd => exact agrees_doTableEnd ..

theorem agrees_perform (p : Port) (c : Command) (s : State) : Agrees s (perform p c s).state := by
  unfold perform
  split
  · split
    · exact agrees_run ..
    · exact .refl s
  · exact .refl s

theorem agrees_answerReply {p : Port} {c : Command} {a : Answer} {s : State} (h : Agrees s a.state) :
    Agrees s (answerReply p c a) := h.trans (callsKept_of_lines (line_answerReply p c a)).agrees

theorem agrees_issue {p : Port} {c : Command} {act : State → Answer} {s : State} (h : Agrees s (act s).state) :
    Agrees s (issue p c act s) :=
  agrees_ite (agrees_answerReply h) (callsKept_of_lines (line_enqueueCommand p c s)).agrees

/-- However many commands of a FIFO execute, agreed modes are kept. -/
theorem agrees_drainFifo (p : Port) (n : Nat) : ∀ s : State, Agrees s (drainFifo p n s) := by
  induction n with
  | zero => exact fun s => .refl s
  | succ n ih =>
    intro s
    unfold drainFifo
    split
    · exact agrees_ite ((agrees_answerReply ((agrees_modPort s p _).trans (agrees_perform p _ _))).trans (ih _)) (.refl s)
    · exact .refl s

/-! ### Every row -/

theorem exec_agrees {c : Instr} {s t : State} (h : exec c s = .next t) : Agrees s t := by
  cases c <;> cases h
  case powerOnReset => exact ⟨fun l _ => by cases l <;> exact agreementSound_of_unagreed nofun nofun⟩
  case chipSelectLow p kind => exact agrees_ite (agrees_modPort s p _) (.refl s)
  case chipSelectHigh p clocked =>
    exact agrees_ite ((agrees_modPort s p _).trans ((agrees_modPort _ p _).trans (agrees_modPort _ p _)))
      (agrees_modPort s p _)
  case commandTaken p body =>
    split
    · split
      · exact agrees_issue (agrees_perform p _ s)
      · exact agrees_modPort s p _
    · exact .refl s
  case foreignMessage p type body => exact agrees_ite (agrees_modPort s p _) (.refl s)
  case mediaTaken p body =>
    split
    · split
      · exact agrees_routeFrame p _ s
      · exact agrees_modPort s p _
    · exact .refl s
  case messageSent p =>
    exact agrees_ite (((agrees_modPort s p _).trans (agrees_drainFifo p _ _)).trans (agrees_modPort _ p _)) (.refl s)
  case unknownCommand => exact agrees_issue (.refl s)
  case nop => exact agrees_issue (.refl s)
  case readNotices p _ _ => exact agrees_issue (Agrees.accepted (agrees_modPort s p _) _)
  case setNoticeMask p _ _ _ => exact agrees_issue (Agrees.accepted (agrees_modPort s p _) _)
  case claim => exact agrees_issue (agrees_doClaim ..)
  case release => exact agrees_issue (agrees_ownerCommand .release ..)
  case handOver => exact agrees_issue (agrees_ownerCommand .handOver ..)
  case readLine => exact agrees_issue (agrees_doReadLine ..)
  case readEvents => exact agrees_issue (agrees_ownerCommand .readEvents ..)
  case lineReset => exact agrees_issue (agrees_ownerCommand .lineReset ..)
  case deviceReset => exact agrees_issue (agrees_doDeviceReset ..)
  case setFeed => exact agrees_issue (agrees_ownerCommand (.setFeed _) ..)
  case setHookTiming => exact agrees_issue (agrees_ownerCommand (.setHookTiming _) ..)
  case ringStart => exact agrees_issue (agrees_ownerCommand (.ringStart _) ..)
  case ringStop => exact agrees_issue (agrees_ownerCommand .ringStop ..)
  case toneStart => exact agrees_issue (agrees_ownerCommand (.toneStart _) ..)
  case toneStop => exact agrees_issue (agrees_ownerCommand .toneStop ..)
  case loadCallerId => exact agrees_issue (agrees_doLoadCallerId ..)
  case channelOpen => exact agrees_issue (agrees_ownerCommand (.channelOpen _ _) ..)
  case channelCloseImmediate => exact agrees_issue (agrees_ownerCommand .channelClose ..)
  case channelCloseDrain => exact agrees_issue (agrees_ownerCommand .channelDrain ..)
  case channelFlush => exact agrees_issue (agrees_ownerCommand .channelFlush ..)
  case setAbility => exact agrees_issue (agrees_ownerCommand (.setAbility _) ..)
  case setClass => exact agrees_issue (agrees_ownerCommand (.setClass _) ..)
  case agreementRestart => exact agrees_issue (agrees_ownerCommand .agreementRestart ..)
  case readCounters => exact agrees_issue (agrees_doReadCounters ..)
  case tablePointer => exact agrees_issue (agrees_doTablePointer ..)
  case tableWrite => exact agrees_issue (agrees_doTableWrite ..)
  case tableRead => exact agrees_issue (agrees_doTableRead ..)
  case tableHold => exact agrees_issue (agrees_doTableHold ..)
  case tableEnd => exact agrees_issue (agrees_doTableEnd ..)
  case uplinkBoundary l =>
    exact agrees_ite ((agrees_modLine (f := fun x => { x with chan := afterUplink x.chan }) id).trans
      (agrees_routeUplink l _ _)) (.refl s)
  case frameStart l => exact agrees_ite (agrees_beginPeriod l s) (.refl s)
  case agreementTimeout l => exact agrees_ite (agrees_enterPresumed_timeout l s) (.refl s)
  case filteredOffHookEdge l => exact agrees_ite (callsKept_offHookEdge l s).agrees (.refl s)
  case filteredOnHookEdge l => exact agrees_ite (callsKept_modSup s l _).agrees (.refl s)
  case offHookQualified l => exact agrees_ite (callsKept_completeQualification l s).agrees (.refl s)
  case hangUp l =>
    split
    · exact (callsKept_doHangUp l _ s).agrees
    · exact .refl s
  case interdigitExpiry l => exact agrees_ite (callsKept_emitDigit l s).agrees (.refl s)
  case overcurrentStart l => exact agrees_modLine id
  case overcurrentEnd l => exact (callsKept_modSup s l _).agrees
  case loopFault l => exact agrees_ite (callsKept_declareFault l s).agrees (.refl s)
  case faultRetryExpiry l => exact agrees_ite (agrees_modLine (f := restoreFeed) id) (.refl s)
  case feedRestored l =>
    exact agrees_ite ((callsKept_modSup s l _).trans (callsKept_emit l _ _ _ _ _)).agrees (.refl s)
  case detectorBlockBoundary l a b =>
    exact agrees_ite (.trans (agrees_modLine id) (agrees_applyFindings l _ _)) (.refl s)
  case stepTimerExpiry l =>
    exact agrees_ite ((callsKept_ite (callsKept_endRinging true l s) (.refl s)).trans
      (callsKept_advanceCadence l _)).agrees (.refl s)
  case startTimerExpiry => exact (callsKept_startTimer s).agrees
  case keepWarmExpiry => exact agrees_ite (callsKept_modRing s _).agrees (.refl s)
  case cidDone l => exact agrees_ite (callsKept_completeTransmission l s).agrees (.refl s)
  case hookSample l b => exact (callsKept_modSup s l _).agrees
  case lineSample rx1 rx2 => exact agrees_lineSample

/-- Settles O57: every row keeps agreed modes, so every step does. -/
theorem agreementKeptSound : Obligations.AgreementKeptSound := fun _ _ hs h =>
  step_keeps (Inv := fun s => ∀ l, AgreementSound (s.line l).chan)
    (fun s q hi l => by cases l <;> [exact hi .one; exact hi .two])
    (fun _ _ _ hi he l => (exec_agrees he).kept l (hi l)) hs h

end Sys2Proof.Machine
end

section
/-! SUPPORT. Settled: CHANNEL_OPEN, the two closes and CHANNEL_FLUSH, and the three agreement commands. -/

namespace Sys2Proof.Machine

open Sys2Proof.Claim

/-! ### A command of the line's owner -/

/-- The owner's command that names its line executes on it and is answered (R17, R182, R186). -/
theorem issue_owned {s : State} {p : Port} {l : Line} (hf : Free s p) (ho : (s.line l).owner = some p) (c : Command)
    (act : Line → State → Answer) :
    issue p c (ownerCommand p (lineByte l) act) s = answered p c.tag c.code (act l s) := by
  rw [issue_of_free hf, ownerCommand_owned p _ l act s (lineOf_lineByte l) ho]
  rfl

/-! ### Ability bytes (R24, R47) -/

theorem abilityOf_eq (a : Byte) : abilityOf a = BitVec.ofNat 4 a.toNat := by
  apply BitVec.eq_of_toNat_eq
  simp [abilityOf]

theorem hasMode_abilityOf (a : Byte) (m : Mode) : hasMode (abilityOf a) m = a.getLsbD m.bit := by
  cases m <;> simp [hasMode, abilityOf, Mode.bit]

theorem abilityInRange_iff (a : Byte) : abilityInRange a = true ↔ a ≠ 0 ∧ a.toNat ≤ 15 := by
  have hhigh : a.extractLsb' 4 4 = 0 ↔ a.toNat ≤ 15 := by
    rw [← BitVec.toNat_inj]
    have := a.isLt
    simp only [BitVec.extractLsb'_toNat, BitVec.ofNat_eq_ofNat, BitVec.toNat_ofNat, Nat.shiftRight_eq_div_pow]
    omega
  have hlow : a.toNat ≤ 15 → (abilityOf a ≠ 0 ↔ a ≠ 0) := fun h => by
    rw [abilityOf_eq, ne_eq, ne_eq, ← BitVec.toNat_inj, ← BitVec.toNat_inj]
    simp only [BitVec.toNat_ofNat, BitVec.ofNat_eq_ofNat]
    omega
  simp only [abilityInRange, Bool.and_eq_true, beq_iff_eq, bne_iff_ne, hhigh]
  exact ⟨fun ⟨h1, h2⟩ => ⟨(hlow h1).mp h2, h1⟩, fun ⟨h1, h2⟩ => ⟨h2, (hlow h2).mpr h1⟩⟩

theorem abilityInRange_false {a : Byte} (h : a = 0 ∨ 15 < a.toNat) : ¬ abilityInRange a = true := by
  rw [abilityInRange_iff]
  rintro ⟨h0, h15⟩
  obtain h | h := h
  · exact h0 h
  · omega

/-! ### Detectors that follow their channel (R117, R126) -/

/-- While the channel is not CLOSED no detector stops. -/
theorem stopFindings_of_notClosed {x : LineState} (h : x.buf.state ≠ .closed) : stopFindings x = [] := by
  simp [stopFindings, dtmfRuns, toneRuns, h]

/-- Findings that hand over no trigger change the line's events alone. -/
theorem line_applyFindings (l : Line) (fs : List Finding) (h : ∀ f ∈ fs, f.trigger = none) :
    ∀ s : State, ∃ es, (applyFindings l fs s).line l = { s.line l with events := es } := by
  induction fs with
  | nil => exact fun s => ⟨_, rfl⟩
  | cons f fs ih =>
    intro s
    obtain ⟨es, hes⟩ := ih (fun g hg => h g (List.mem_cons_of_mem _ hg)) (applyFinding l s f)
    refine ⟨es, hes.trans ?_⟩
    rw [applyFinding, h f List.mem_cons_self, line_storePlain_same]

theorem lineWork_applyFinding (l : Line) (s : State) (f : Finding) : LineWork l s (applyFinding l s f) := by
  unfold applyFinding
  cases f.trigger with
  | some k => exact (lineWork_upspeed l k s).trans (lineWork_storePlain ..)
  | none => exact lineWork_storePlain ..

theorem lineWork_applyFindings (l : Line) (fs : List Finding) : ∀ s : State, LineWork l s (applyFindings l fs s) := by
  induction fs with
  | nil => exact fun s => .refl l s
  | cons f fs ih => exact fun s => (lineWork_applyFinding l s f).trans (ih _)

/-- Detectors that follow change themselves and the line's events. -/
theorem line_followDetectors (l : Line) (s : State) : ∃ es, (followDetectors l s).line l =
    { s.line l with det := followedDetectors s.tick (s.line l), events := es } := by
  obtain ⟨es, hes⟩ := line_applyFindings l _ (stopFindings_trigger (s.line l))
    (s.modLine l fun x => { x with det := followedDetectors s.tick x })
  exact ⟨es, by rw [followDetectors, hes, line_modLine_same]⟩

theorem lineWork_followDetectors (l : Line) (s : State) : LineWork l s (followDetectors l s) :=
  (lineWork_modLine ..).trans (lineWork_applyFindings ..)

/-! ### CHANNEL_OPEN (R24, R25) -/

theorem exec_channelOpen {s : State} {p : Port} {l : Line} (hf : Free s p) (ho : (s.line l).owner = some p)
    (tag ability present : Byte) (tmin tmax target : Word) (kv kd relay trig : Byte) :
    exec (.channelOpen p tag (lineByte l) ability present tmin tmax target kv kd relay trig) s
      = .next (answered p tag 0x40 (openOnLine ability (openParams present tmin tmax target kv kd relay trig) l s)) :=
  congrArg _ (issue_owned hf ho _ _)

/-- The clamped parameters are the only ones that R24 describes. -/
theorem eq_openParams {q : ChannelParams} {present : Byte} {tmin tmax target : Word} {kv kd relay trig : Byte}
    (hdefault : present = 0 → q = ChannelParams.default)
    (hfields : present ≠ 0 → q.tmin = max 80 (min 2400 tmin.toNat) ∧ q.tmax = max q.tmin (min 4800 tmax.toNat)
      ∧ q.dataTarget = max 400 (min 4800 target.toNat) ∧ q.kVoice = max 2 (min 8 kv.toNat)
      ∧ q.kData = max 2 (min 8 kd.toNat) ∧ (q.relay = true ↔ relay ≠ 0) ∧ q.triggerCng = trig.getLsbD 0
      ∧ q.triggerAns = trig.getLsbD 1) :
    q = openParams present tmin tmax target kv kd relay trig := by
  unfold openParams
  split
  next h => exact hdefault h
  next h =>
    obtain ⟨htmin, htmax, htarget, hkv, hkd, hrelay, hcng, hans⟩ := hfields h
    have hr : q.relay = (relay != 0) := by rw [Bool.eq_iff_iff, hrelay, bne_iff_ne]
    obtain ⟨_, _, _, _, _, _, _, _⟩ := q
    dsimp only at htmin htmax htarget hkv hkd hr hcng hans
    subst htmin htmax htarget hkv hkd hr hcng hans
    rfl

theorem paramBytes_eq (q : ChannelParams) : paramBytes q =
    ([q.tmin, q.tmax, q.dataTarget].flatMap fun n => [hiByte (BitVec.ofNat 16 n), loByte (BitVec.ofNat 16 n)])
      ++ [byteOf q.kVoice, byteOf q.kData, if q.relay then 1 else 0,
        (if q.triggerCng then 1 else 0) + (if q.triggerAns then 2 else 0)] := by
  have htriggers : boolByte q.triggerCng ||| (boolByte q.triggerAns <<< 1)
      = (if q.triggerCng then 1 else 0) + (if q.triggerAns then 2 else 0) := by
    cases q.triggerCng <;> cases q.triggerAns <;> rfl
  rw [paramBytes, htriggers]
  rfl

/-- Settles O48: the three answers of `openOnLine`; the detectors only start, so nothing is stored or latched. -/
theorem channelOpensCall : Obligations.ChannelOpensCall := by
  intro p tag ability present tmin tmax target kv kd relay trig l s hf ho
  simp only [exec_channelOpen hf ho, openOnLine]
  refine ⟨fun hc => ?_, fun hc ha => ?_, fun hc h0 h15 q hdefault hfields => ?_⟩
  · rw [if_pos hc, answered_refuse]
  · rw [if_neg (not_not_intro hc), if_neg (abilityInRange_false ha), answered_refuse]
  · obtain rfl := eq_openParams hdefault hfields
    generalize openParams present tmin tmax target kv kd relay trig = q
    have hsilent : stopFindings ((s.modLine l (openLine q (abilityOf ability))).line l) = [] :=
      stopFindings_of_notClosed (by rw [line_modLine_same]; nofun)
    have hruns : toneRuns (openLine q (abilityOf ability) (s.line l)) = true
        ∧ dtmfRuns (openLine q (abilityOf ability) (s.line l)) = true := ⟨rfl, rfl⟩
    rw [if_neg (not_not_intro hc), if_pos ((abilityInRange_iff _).mpr ⟨h0, h15⟩), answered_accept, paramBytes_eq,
      followDetectors_of_silent hsilent, modLine_comp]
    refine ⟨_, rfl, ?_⟩
    simp only [line_modLine_same]
    refine ⟨?_, rfl, rfl, list_zero, ?_, ?_, ?_, ?_, ?_, rfl, rfl, rfl, rfl, ⟨rfl, rfl, rfl, rfl, rfl, rfl, rfl⟩,
      (lineWork_modLine ..).elsewhere, modLine_portA .., modLine_portB ..⟩
    · rw [← abilityOf_eq]
      simp only [openLine, newChannel, openingMode, hasMode_abilityOf]
      rfl
    all_goals simp only [followedDetectors, followRunning_on, hruns]

/-! ### CHANNEL_CLOSE and CHANNEL_FLUSH (R26, R27, R68) -/

theorem exec_channelClose {s : State} {p : Port} {l : Line} (hf : Free s p) (ho : (s.line l).owner = some p) (tag : Byte) :
    exec (.channelCloseImmediate p tag (lineByte l)) s = .next (answered p tag 0x41 (closeOnLine l s)) :=
  congrArg _ (issue_owned hf ho _ _)

theorem exec_channelDrain {s : State} {p : Port} {l : Line} (hf : Free s p) (ho : (s.line l).owner = some p) (tag : Byte) :
    exec (.channelCloseDrain p tag (lineByte l)) s = .next (answered p tag 0x41 (drainOnLine l s)) :=
  congrArg _ (issue_owned hf ho _ _)

theorem exec_channelFlush {s : State} {p : Port} {l : Line} (hf : Free s p) (ho : (s.line l).owner = some p) (tag : Byte) :
    exec (.channelFlush p tag (lineByte l)) s = .next (answered p tag 0x42 (flushOnLine l s)) :=
  congrArg _ (issue_owned hf ho _ _)

theorem notOpen_of_open {x : LineState} (h : x.buf.state.isOpen = true) : ¬ notOpen x = true := by simp [notOpen, h]

theorem notOpen_of_notOpen {x : LineState} (h : x.buf.state.isOpen = false) : notOpen x = true := by simp [notOpen, h]

/-- An untrimmed period keeps its length when the channel closes (R59; log 14). -/
theorem closedNow_length {q : Period} (h : q.trimmed = false) : q.closedNow.rest.length = q.rest.length := by
  simp [Period.closedNow, h]

/-- With no digit active and the answer detectors IDLE a stop leaves no event (R126). -/
theorem stopFindings_of_idle {x : LineState} (hd : digitActive x.det.dtmf = false) (hl : x.det.ansLine = .idle)
    (hn : x.det.ansNet = .idle) : stopFindings x = [] := by
  have hdtmf : dtmfStopped x.det.dtmf = [] := by
    cases hs : x.det.dtmf with
    | active => rw [hs] at hd; cases hd
    | idle => rfl
    | qualifying => rfl
  simp [stopFindings, hdtmf, hl, hn, answerStopped]

/-- A drain of an open channel. -/
theorem drainOnLine_open {l : Line} {s : State} (h : (s.line l).buf.state.isOpen = true) :
    drainOnLine l s = accept (s.modLine l drainLine) := by
  unfold drainOnLine
  split
  next hc => rw [hc] at h; cases h
  next hd => rw [hd] at h; cases h
  next => rfl

/-- Settles O49: the answers of the three works; the close's detectors follow, which changes them and the events alone. -/
theorem channelClosesDrainsAndFlushes : Obligations.ChannelClosesDrainsAndFlushes := by
  intro p tag l s hf ho
  simp only [exec_channelClose hf ho, exec_channelDrain hf ho, exec_channelFlush hf ho]
  refine ⟨fun hc => ⟨?_, ?_⟩, fun hc => ?_, fun hc => ?_, fun hd => ?_, fun hopen => ⟨?_, ?_⟩⟩
  · rw [closeOnLine, if_pos hc, answered_refuse]
  · simp only [drainOnLine, hc, answered_refuse]
  · have hno : (s.line l).buf.state.isOpen = false := by obtain hc | hc := hc <;> rw [hc] <;> rfl
    rw [flushOnLine, if_pos (notOpen_of_notOpen hno), answered_refuse]
  · rw [closeOnLine, if_neg hc, answered_accept]
    obtain ⟨es, hline⟩ := line_followDetectors l (s.modLine l closeLine)
    have hwork : LineWork l s (closeNow l s) := (lineWork_modLine ..).trans (lineWork_followDetectors ..)
    have hruns : toneRuns (closeLine (s.line l)) = false := rfl
    rw [line_modLine_same] at hline
    refine ⟨_, rfl, ?_⟩
    rw [closeNow] at hwork ⊢
    rw [hline]
    refine ⟨rfl, rfl, rfl, rfl, rfl, rfl, rfl, rfl, closedNow_silent _, closedNow_length, rfl, rfl, rfl, rfl, rfl,
      ⟨rfl, rfl, rfl, rfl, rfl, rfl, rfl⟩, ?_, ?_, ?_, ?_, hwork.elsewhere, hwork.ports, fun hd hl hn => ?_⟩
    · simp only [followedDetectors, followRunning_on, hruns]
    · simp only [followedDetectors, followRunning_on, hruns]
    · simp only [followedDetectors, followRunning_on, hruns]
    · simp only [followedDetectors, followRunning_on, hruns]
    · have hsilent : stopFindings ((s.modLine l closeLine).line l) = [] := by
        rw [line_modLine_same]; exact stopFindings_of_idle hd hl hn
      rw [followDetectors_of_silent hsilent, modLine_comp] at hline ⊢
      rw [← hline, line_modLine_same]
      exact ⟨rfl, modLine_portA .., modLine_portB ..⟩
  · simp only [drainOnLine, hd, answered_accept]
  · rw [drainOnLine_open hopen, answered_accept]
    rfl
  · rw [flushOnLine, if_neg (notOpen_of_open hopen), answered_accept]
    rfl

/-! ### AGREEMENT_RESTART, SET_CLASS and SET_ABILITY (R46 to R48) -/

theorem exec_agreementRestart {s : State} {p : Port} {l : Line} (hf : Free s p) (ho : (s.line l).owner = some p)
    (tag : Byte) : exec (.agreementRestart p tag (lineByte l)) s = .next (answered p tag 0x45 (restartOnLine l s)) :=
  congrArg _ (issue_owned hf ho _ _)

theorem exec_setClass {s : State} {p : Port} {l : Line} (hf : Free s p) (ho : (s.line l).owner = some p) (tag k : Byte) :
    exec (.setClass p tag (lineByte l) k) s = .next (answered p tag 0x44 (classOnLine k l s)) :=
  congrArg _ (issue_owned hf ho _ _)

theorem exec_setAbility {s : State} {p : Port} {l : Line} (hf : Free s p) (ho : (s.line l).owner = some p) (tag a : Byte) :
    exec (.setAbility p tag (lineByte l) a) s = .next (answered p tag 0x43 (abilityOnLine a l s)) :=
  congrArg _ (issue_owned hf ho _ _)

theorem classOf_class (k : MediaClass) : classOf (if k = .voice then 0 else 1) = some k := by cases k <;> rfl

theorem classOf_eq_none {k : Byte} (h : 1 < k.toNat) : classOf k = none := by
  have h0 : k ≠ 0 := by rintro rfl; simp at h
  have h1 : k ≠ 1 := by rintro rfl; simp at h
  rw [classOf, if_neg h0, if_neg h1]

/-- In ADVERTISE already, a restart tells nobody. -/
theorem restartAgreement_untold {l : Line} {s : State} (h : (s.line l).chan.agreement = .advertise) :
    (restartAgreement l s).portA = s.portA ∧ (restartAgreement l s).portB = s.portB := by
  rw [restartAgreement, setAgreement, if_pos h]
  exact ⟨modLine_portA .., modLine_portB ..⟩

/-- A restart on an open line, once its requested class is set (R36, R46). -/
theorem restarted_setClass {p : Port} {l : Line} {s : State} (ho : (s.line l).owner = some p)
    (hopen : (s.line l).buf.state.isOpen = true) (k : MediaClass) :
    Restarted p l k s (restartAgreement l (s.modChan l fun c => { c with requestedClass := k })) := by
  have hwork := (lineWork_modChan l (fun c => { c with requestedClass := k }) s).trans (lineWork_restartAgreement l _)
  refine ⟨?_, hwork.elsewhere, hwork.ports, fun ha => ?_, fun ha => ?_⟩
  · rw [line_restartAgreement, line_modChan_same]
    simp only [restarted, hopen, if_true]
    rfl
  · exact restartAgreement_told (by rw [line_modChan_same]; exact ha) (by rw [line_modChan_same]; exact ho)
  · obtain ⟨hA, hB⟩ := restartAgreement_untold (l := l) (s := s.modChan l fun c => { c with requestedClass := k })
      (by rw [line_modChan_same]; exact ha)
    exact ⟨hA.trans (modLine_portA ..), hB.trans (modLine_portB ..)⟩

/-- Setting the class that is set changes nothing. -/
theorem modChan_sameClass (l : Line) (s : State) :
    (s.modChan l fun c => { c with requestedClass := (s.line l).chan.requestedClass }) = s := by
  cases l <;> rfl

theorem modChan_congr {s : State} {l : Line} {f g : MediaChannel → MediaChannel}
    (h : f (s.line l).chan = g (s.line l).chan) : s.modChan l f = s.modChan l g :=
  modLine_congr (by rw [h])

/-- SET_ABILITY on an open line, where the new set holds what it must (R47). -/
theorem abilityOnLine_accepts {a : Byte} {l : Line} {s : State} (hopen : (s.line l).buf.state.isOpen = true)
    (hfree : ¬ ((s.line l).chan.agreement = .confirmed ∧ (s.line l).chan.flags.noCommon = false
      ∧ a.getLsbD (s.line l).chan.mode.bit = false)) (h0 : a ≠ 0) (h15 : a.toNat ≤ 15) :
    abilityOnLine a l s = accept (s.modChan l fun c =>
      if c.agreement = .matched then recompute { c with ability := abilityOf a } else { c with ability := abilityOf a }) := by
  rw [abilityOnLine]
  simp only [hasMode_abilityOf]
  rw [if_neg (notOpen_of_open hopen), if_neg hfree, if_pos ((abilityInRange_iff a).mpr ⟨h0, h15⟩)]

/-- Settles O50: the answers of the three works. -/
theorem agreementCommandsAct : Obligations.AgreementCommandsAct := by
  intro p tag l s hf ho
  simp only [exec_agreementRestart hf ho, exec_setClass hf ho, exec_setAbility hf ho]
  refine ⟨fun hno => ⟨?_, fun k => ?_, fun a => ?_⟩, fun hopen => ⟨?_, fun k => ?_, fun k hk => ?_, fun a stuck hstuck =>
    ⟨fun h => ?_, fun h ha => ?_, fun h h0 h15 hm => ?_, fun h0 h15 hm w hw => ?_⟩⟩⟩
  · rw [restartOnLine, if_pos (notOpen_of_notOpen hno), answered_refuse]
  · rw [classOnLine, if_pos (notOpen_of_notOpen hno), answered_refuse]
  · rw [abilityOnLine, if_pos (notOpen_of_notOpen hno), answered_refuse]
  · rw [restartOnLine, if_neg (notOpen_of_open hopen), answered_accept]
    have h := restarted_setClass ho hopen (s.line l).chan.requestedClass
    rw [modChan_sameClass] at h
    exact ⟨_, rfl, h⟩
  · rw [classOnLine, if_neg (notOpen_of_open hopen), classOf_class]
    exact ⟨_, rfl, restarted_setClass ho hopen k⟩
  · rw [classOnLine, if_neg (notOpen_of_open hopen), classOf_eq_none hk]
    rfl
  · rw [abilityOnLine, if_neg (notOpen_of_open hopen)]
    simp only [hasMode_abilityOf]
    rw [if_pos (hstuck.mp h), answered_refuse]
  · rw [abilityOnLine, if_neg (notOpen_of_open hopen)]
    simp only [hasMode_abilityOf]
    rw [if_neg (mt hstuck.mpr h), if_neg (abilityInRange_false ha), answered_refuse]
  · rw [abilityOnLine_accepts hopen (mt hstuck.mpr h) h0 h15, answered_accept]
    refine congrArg _ (congrArg _ (modChan_congr ?_))
    rw [if_neg hm, abilityOf_eq]
  · have hfree : ¬ ((s.line l).chan.agreement = .confirmed ∧ (s.line l).chan.flags.noCommon = false
        ∧ a.getLsbD (s.line l).chan.mode.bit = false) := fun ⟨hc, _⟩ => absurd (hm.symm.trans hc) nofun
    rw [abilityOnLine_accepts hopen hfree h0 h15, answered_accept]
    refine ⟨_, _, _, chosen_chooseMode _ _ w _, congrArg _ (congrArg _ (modChan_congr ?_))⟩
    rw [if_pos hm, recompute_some (c := { (s.line l).chan with ability := abilityOf a }) hw, abilityOf_eq]

end Sys2Proof.Machine
end

section
/-! SUPPORT. Settled: the judgement of MEDIA messages, and the mode agreement's answer to words, bare frames and its timer. -/

namespace Sys2Proof.Machine

open Sys2Proof.Claim

/-! ### The fields of a MEDIA body (R180, spec 10.3) -/

theorem append_byte_toNat {n : Nat} (x : BitVec n) (b : Byte) : (x ++ b).toNat = x.toNat * 256 + b.toNat := by
  rw [BitVec.toNat_append, ← Nat.shiftLeft_add_eq_or_of_lt b.isLt, Nat.shiftLeft_eq]

theorem wordOf_toNat (hi lo : Byte) : (wordOf hi lo).toNat = hi.toNat * 256 + lo.toNat := append_byte_toNat hi lo

theorem dwordOf_toNat (b3 b2 b1 b0 : Byte) : (dwordOf b3 b2 b1 b0).toNat
    = b3.toNat * 16777216 + b2.toNat * 65536 + b1.toNat * 256 + b0.toNat := by
  simp only [dwordOf, append_byte_toNat]
  omega

theorem extract_toNat (b : Byte) (i n : Nat) : (b.extractLsb' i n).toNat = b.toNat / 2 ^ i % 2 ^ n := by
  rw [BitVec.extractLsb'_toNat, Nat.shiftRight_eq_div_pow]

theorem topBit_eq (b : Byte) : b.getLsbD 7 = decide (128 ≤ b.toNat) := by
  rw [← BitVec.testBit_toNat, Nat.testBit_eq_decide_div_mod_eq]
  have := b.isLt
  congr 1
  rw [eq_iff_iff]
  omega

theorem kindOf_eq (format : Byte) : kindOf format =
    if format.toNat % 4 = 0 then some .log8 else if format.toNat % 4 = 1 then some .lin16 else none := by
  have h : (format.extractLsb' 0 2).toNat = format.toNat % 4 := by rw [extract_toNat]; simp
  unfold kindOf
  rw [h]
  split
  next h0 => rw [if_pos h0]
  next h1 => rw [h1]; rfl
  next h0 h1 => rw [if_neg h0, if_neg h1]

theorem classOf_field (b : Byte) : classOf ((b.extractLsb' 4 2).zeroExtend 8) =
    if b.toNat / 16 % 4 = 0 then some .voice else if b.toNat / 16 % 4 = 1 then some .data else none := by
  have h : ((b.extractLsb' 4 2).zeroExtend 8).toNat = b.toNat / 16 % 4 := by
    simp only [BitVec.truncate_eq_setWidth, BitVec.toNat_setWidth, extract_toNat]
    omega
  simp only [classOf, ← BitVec.toNat_inj, h, BitVec.ofNat_eq_ofNat, BitVec.toNat_ofNat]

theorem modeOf_eq_some {n : Nat} (h : n < 4) : ∃ m, modeOf n = some m := by
  match n, h with
  | 0, _ => exact ⟨_, rfl⟩
  | 1, _ => exact ⟨_, rfl⟩
  | 2, _ => exact ⟨_, rfl⟩
  | 3, _ => exact ⟨_, rfl⟩

theorem lt_of_modeOf {n : Nat} {m : Mode} (h : modeOf n = some m) : n < 4 := by
  unfold modeOf at h
  split at h
  case h_5 => cases h
  all_goals decide

theorem modeOf_code (m : Mode) : modeOf (match m with | .v8 => 0 | .v16 => 1 | .d8 => 2 | .d16 => 3) = some m := by
  cases m <;> rfl

theorem modeField_toNat (b : Byte) : (b.extractLsb' 0 3).toNat = b.toNat % 8 := by rw [extract_toNat]; simp

/-- Two bytes hold a mode word where their class and mode are in their sets (R180). -/
theorem modeWordOf_some_iff (b0 b1 : Byte) :
    (∃ w, modeWordOf b0 b1 = some w) ↔ b1.toNat / 16 % 4 < 2 ∧ b1.toNat % 8 < 4 := by
  rw [modeWordOf, classOf_field, modeField_toNat]
  constructor
  · rintro ⟨w, h⟩
    split at h
    next c m hc hm =>
      refine ⟨?_, lt_of_modeOf hm⟩
      split at hc
      · omega
      · split at hc
        · omega
        · cases hc
    next => cases h
  · rintro ⟨hc, hm⟩
    obtain ⟨m, hm⟩ := modeOf_eq_some hm
    by_cases h0 : b1.toNat / 16 % 4 = 0
    · rw [if_pos h0, hm]; exact ⟨_, rfl⟩
    · rw [if_neg h0, if_pos (by omega), hm]; exact ⟨_, rfl⟩

/-- The mode word that two bytes hold (spec 10.3). -/
theorem modeWordOf_eq {b0 b1 : Byte} {w : ModeWord} (hs : b1.toNat / 16 % 4 < 2)
    (ha : w.ability = BitVec.ofNat 4 b0.toNat) (hk : w.ack = b1.getLsbD 7)
    (hc : w.mediaClass = if b1.toNat / 16 % 4 = 0 then .voice else .data)
    (hm : b1.toNat % 8 = match w.mode with | .v8 => 0 | .v16 => 1 | .d8 => 2 | .d16 => 3) :
    modeWordOf b0 b1 = some w := by
  have hclass : classOf ((b1.extractLsb' 4 2).zeroExtend 8) = some w.mediaClass := by
    rw [classOf_field, hc]
    by_cases h0 : b1.toNat / 16 % 4 = 0
    · rw [if_pos h0, if_pos h0]
    · rw [if_neg h0, if_neg h0, if_pos (by omega)]
  have hmode : modeOf (b1.extractLsb' 0 3).toNat = some w.mode := by rw [modeField_toNat, hm, modeOf_code]
  rw [modeWordOf, hclass, hmode, abilityOf_eq, ← ha, ← hk]

/-! ### MEDIA bodies (R34, R53, R180) -/

theorem payloadLength_of_kindOf {format : Byte} {k : PayloadKind} (h : kindOf format = some k) :
    (format.toNat % 4 = 0 ∨ format.toNat % 4 = 1) ∧ payloadLength k = if format.toNat % 4 = 0 then 80 else 160 := by
  rw [kindOf_eq] at h
  split at h
  next h0 => cases h; exact ⟨.inl h0, (if_pos h0).symm⟩
  next h0 =>
    split at h
    next h1 => cases h; exact ⟨.inr h1, (if_neg h0).symm⟩
    next => cases h

theorem kindOf_of_formed {format : Byte} (h : format.toNat % 4 = 0 ∨ format.toNat % 4 = 1) : ∃ k, kindOf format = some k := by
  rw [kindOf_eq]
  obtain h | h := h
  · exact ⟨_, if_pos h⟩
  · exact ⟨_, by rw [if_neg (by omega), if_pos h]⟩

/-- A body without a mode word is a bare frame. -/
theorem mediaOf_bare {l : Line} {k : PayloadKind} {format s1 s0 t3 t2 t1 t0 : Byte} {rest : List Byte}
    (hf : format.toNat < 128) (hk : kindOf format = some k) (hr : rest.length = payloadLength k) :
    mediaOf (lineByte l :: format :: s1 :: s0 :: t3 :: t2 :: t1 :: t0 :: rest) = some
      { line := l, kind := k, sequence := wordOf s1 s0, timestamp := dwordOf t3 t2 t1 t0, word := none
        payload := rest } := by
  have htop : format.getLsbD 7 = false := by rw [topBit_eq]; exact decide_eq_false (by omega)
  rw [mediaOf, lineOf_lineByte, hk, htop]
  exact if_pos hr

/-- A body with a mode word is a frame that carries it. -/
theorem mediaOf_word {l : Line} {k : PayloadKind} {format s1 s0 t3 t2 t1 t0 w0 w1 : Byte} {w : ModeWord}
    {payload : List Byte} (hf : 128 ≤ format.toNat) (hk : kindOf format = some k) (hw : modeWordOf w0 w1 = some w)
    (hr : payload.length = payloadLength k) :
    mediaOf (lineByte l :: format :: s1 :: s0 :: t3 :: t2 :: t1 :: t0 :: w0 :: w1 :: payload) = some
      { line := l, kind := k, sequence := wordOf s1 s0, timestamp := dwordOf t3 t2 t1 t0, word := some w
        payload := payload } := by
  have htop : format.getLsbD 7 = true := by rw [topBit_eq]; exact decide_eq_true hf
  rw [mediaOf, lineOf_lineByte, hk, htop]
  simp only [splitWord, hw, if_true, Option.map_some, hr]

/-- A well-formed body is a media frame of the line it names. -/
theorem mediaOf_of_formed {body : List Byte} {l : Line} (h : BodyFormed body) (hl : body.head? = some (lineByte l)) :
    ∃ f, mediaOf body = some f ∧ f.line = l := by
  obtain ⟨lf, format, s1, s0, t3, t2, t1, t0, rest, rfl, -, hkind, hlen, hword⟩ := h
  obtain rfl : lf = lineByte l := by simpa using hl
  obtain ⟨k, hk⟩ := kindOf_of_formed hkind
  have hpay := (payloadLength_of_kindOf hk).2
  by_cases hf : format.toNat < 128
  · rw [if_pos hf, Nat.zero_add, ← hpay] at hlen
    exact ⟨_, mediaOf_bare hf hk hlen, rfl⟩
  · obtain ⟨w0, w1, payload, rfl, hbytes⟩ := hword (by omega)
    obtain ⟨w, hw⟩ := (modeWordOf_some_iff w0 w1).mpr hbytes
    rw [if_neg hf, ← hpay, List.length_cons, List.length_cons] at hlen
    exact ⟨_, mediaOf_word (by omega) hk hw (by omega), rfl⟩

theorem splitWord_formed {present : Bool} {rest payload : List Byte} {w : Option ModeWord}
    (h : splitWord present rest = some (w, payload)) :
    (present = false ∧ rest = payload)
      ∨ (present = true ∧ ∃ w0 w1, rest = w0 :: w1 :: payload ∧ w1.toNat / 16 % 4 < 2 ∧ w1.toNat % 8 < 4) := by
  unfold splitWord at h
  split at h
  next hp =>
    split at h
    next w0 w1 pay =>
      obtain ⟨v, hv, he⟩ := Option.map_eq_some_iff.mp h
      cases he
      exact .inr ⟨hp, w0, w1, rfl, (modeWordOf_some_iff w0 w1).mp ⟨v, hv⟩⟩
    next => cases h
  next hp =>
    cases h
    exact .inl ⟨by simpa using hp, rfl⟩

/-- Only well-formed bodies are media frames (R180). -/
theorem formed_of_mediaOf {body : List Byte} {f : MediaFrame} (h : mediaOf body = some f) : BodyFormed body := by
  unfold mediaOf at h
  split at h
  next lf format s1 s0 t3 t2 t1 t0 rest =>
    split at h
    next l k w payload hl hk hw =>
      split at h
      next hlen =>
        obtain ⟨hkind, hpay⟩ := payloadLength_of_kindOf hk
        have hlf : lf = 1 ∨ lf = 2 := by
          by_contra hnot
          rw [lineOf_eq_none (fun e => hnot (.inl e)) (fun e => hnot (.inr e))] at hl
          cases hl
        refine ⟨lf, format, s1, s0, t3, t2, t1, t0, rest, rfl, hlf, hkind, ?_⟩
        rw [← hpay, ← hlen]
        obtain ⟨hp, rfl⟩ | ⟨hp, w0, w1, rfl, hbytes⟩ := splitWord_formed hw
        · rw [topBit_eq, decide_eq_false_iff_not] at hp
          exact ⟨by rw [if_pos (by omega), Nat.zero_add], fun hf => absurd hf hp⟩
        · rw [topBit_eq, decide_eq_true_iff] at hp
          refine ⟨by rw [if_neg (by omega)]; simp only [List.length_cons]; omega, fun _ => ⟨w0, w1, payload, rfl, hbytes⟩⟩
      next => cases h
    next => cases h
  next => cases h

/-- The frame of a bare body is the record that its arrival makes (R51). -/
theorem mediaOf_bareBody {l : Line} {body : List Byte} {r : FrameRecord} {x : LineState}
    (h : BareBody l x.chan.sampleCounter body r) :
    ∃ f, mediaOf body = some f ∧ f.line = l ∧ f.word = none ∧ recordFrame x f = r := by
  obtain ⟨format, s1, s0, t3, t2, t1, t0, rest, rfl, hf, hseq, hts, hpay, harr, hkind⟩ := h
  have hk : kindOf format = some r.kind ∧ rest.length = payloadLength r.kind := by
    rw [kindOf_eq]
    obtain ⟨h0, hk, hlen⟩ | ⟨h1, hk, hlen⟩ := hkind
    · rw [if_pos h0, hk]; exact ⟨rfl, hlen⟩
    · rw [if_neg (by omega), if_pos h1, hk]; exact ⟨rfl, hlen⟩
  refine ⟨_, mediaOf_bare hf hk.1 hk.2, rfl, rfl, ?_⟩
  have hs : wordOf s1 s0 = r.sequence := BitVec.eq_of_toNat_eq (by rw [wordOf_toNat, hseq])
  have ht : dwordOf t3 t2 t1 t0 = r.timestamp := BitVec.eq_of_toNat_eq (by rw [dwordOf_toNat, hts])
  simp only [recordFrame, hs, ht, ← hpay, ← harr]

/-- The frame of a body with a mode word carries that word. -/
theorem mediaOf_wordBody {l : Line} {w : ModeWord} {body : List Byte} (h : WordBody l w body) :
    ∃ f, mediaOf body = some f ∧ f.line = l ∧ f.word = some w := by
  obtain ⟨⟨_, _, _, _, _, _, _, _, _, rfl, -, hkind, hlen, hword⟩, format, s1, s0, t3, t2, t1, t0, w0, w1, payload, hbody,
    hf, ha, hk, hc, hm⟩ := h
  simp only [List.cons.injEq] at hbody
  obtain ⟨rfl, rfl, rfl, rfl, rfl, rfl, rfl, rfl, rfl⟩ := hbody
  obtain ⟨v0, v1, pay, hrest, hclass, -⟩ := hword hf
  simp only [List.cons.injEq] at hrest
  obtain ⟨rfl, rfl, rfl⟩ := hrest
  obtain ⟨k, hkind⟩ := kindOf_of_formed hkind
  rw [if_neg (by omega), ← (payloadLength_of_kindOf hkind).2, List.length_cons, List.length_cons] at hlen
  exact ⟨_, mediaOf_word hf hkind (modeWordOf_eq hclass ha hk hc hm) (by omega), rfl, rfl⟩

/-! ### Intake of media (R53, R177) -/

theorem exec_mediaTaken_frame {p : Port} {s : State} {body : List Byte} {f : MediaFrame}
    (hw : (s.port p).transaction = .write) (hm : mediaOf body = some f) :
    exec (.mediaTaken p body) s = .next (routeFrame p f s) := by
  simp only [exec, execMediaTaken, inWrite, hw, hm, decide_true, if_true]

theorem exec_mediaTaken_malformed {p : Port} {s : State} {body : List Byte} (hw : (s.port p).transaction = .write)
    (hm : mediaOf body = none) : exec (.mediaTaken p body) s
      = .next (s.modPort p fun q => { q with malformedMedia := satAdd q.malformedMedia 1 }) := by
  simp only [exec, execMediaTaken, inWrite, hw, hm, decide_true, if_true]

theorem routeFrame_stray {p : Port} {f : MediaFrame} {s : State} (ho : (s.line f.line).owner ≠ some p) :
    routeFrame p f s = s.modCtr f.line fun k => { k with stray := satAdd k.stray 1 } := by
  simp [routeFrame, owns, ho]

theorem routeFrame_closed {p : Port} {f : MediaFrame} {s : State} (ho : (s.line f.line).owner = some p)
    (hc : (s.line f.line).buf.state.isOpen = false) :
    routeFrame p f s = s.modCtr f.line fun k => { k with closedArrivals := satAdd k.closedArrivals 1 } := by
  simp [routeFrame, owns, ho, hc]

/-- The owner's frame for an open channel is examined and then delivered (R37, R53). -/
theorem exec_mediaTaken_open {p : Port} {l : Line} {s : State} {body : List Byte} {f : MediaFrame} (h : OwnerSends p l s)
    (hm : mediaOf body = some f) (hl : f.line = l) : exec (.mediaTaken p body) s
      = .next (deliverFrame l (recordFrame (s.line l) f) (examineFrame l f.word s)) := by
  obtain ⟨hw, ho, hopen⟩ := h
  subst hl
  rw [exec_mediaTaken_frame hw hm]
  simp [routeFrame, owns, ho, hopen]

theorem deliverFrame_splice {l : Line} {r : FrameRecord} {s : State} (h : (s.line l).buf.splicePending = true) :
    deliverFrame l r s = s.modLine l fun x => spliceAppend x r := if_pos h

/-- Settles O53: a frame is malformed, stray, a closed arrival, or the next of a pending splice. -/
theorem mediaJudgedAndCounted : Obligations.MediaJudgedAndCounted := by
  intro p body s hw
  refine ⟨fun hformed => ?_, fun l hformed hl => ⟨fun ho => ?_, fun ho hc => ?_, fun r hbare hsends hp ha => ?_⟩⟩
  · refine exec_mediaTaken_malformed hw ?_
    cases hm : mediaOf body with
    | none => rfl
    | some f => exact absurd (formed_of_mediaOf hm) hformed
  · obtain ⟨f, hm, rfl⟩ := mediaOf_of_formed hformed hl
    rw [exec_mediaTaken_frame hw hm, routeFrame_stray ho]
  · obtain ⟨f, hm, rfl⟩ := mediaOf_of_formed hformed hl
    rw [exec_mediaTaken_frame hw hm, routeFrame_closed ho hc]
  · obtain ⟨f, hm, hline, hword, hr⟩ := mediaOf_bareBody hbare
    have hexec := exec_mediaTaken_open hsends hm hline
    rw [hword, hr, examineFrame, receiveBare_outside ha, deliverFrame_splice hp] at hexec
    rw [hexec]
    refine ⟨fun hlen => congrArg _ (modLine_congr ?_), fun hlen => congrArg _ (modLine_congr ?_)⟩
    · exact if_pos hlen
    · exact if_neg (Nat.not_lt.mpr hlen)

/-! ### What a delivered frame leaves (R53 to R58) -/

/-- The delivery of a frame changes the buffer, the estimates and counters other than that of restarts. -/
theorem line_deliverFrame (l : Line) (r : FrameRecord) (s : State) : ∃ b t k,
    (deliverFrame l r s).line l = { s.line l with buf := b, depth := t, ctr := k }
      ∧ k.agreementRestarts = (s.line l).ctr.agreementRestarts := by
  have harrive (x : LineState) : ∃ b t k, arrive x r = { x with buf := b, depth := t, ctr := k }
      ∧ k.agreementRestarts = x.ctr.agreementRestarts := by
    unfold arrive
    cases classify x.buf r.sequence <;> exact ⟨_, _, _, rfl, rfl⟩
  unfold deliverFrame
  dsimp only
  split
  · rw [line_modLine_same]
    unfold spliceAppend
    split <;> exact ⟨_, _, _, rfl, rfl⟩
  · split
    · rw [line_latchOwner, line_modLine_same]; exact harrive _
    · rw [line_modLine_same]; exact harrive _

theorem lineWork_deliverFrame (l : Line) (r : FrameRecord) (s : State) : LineWork l s (deliverFrame l r s) := by
  unfold deliverFrame
  dsimp only
  split
  · exact lineWork_modLine ..
  · split
    · exact (lineWork_modLine ..).trans (lineWork_latchOwner ..)
    · exact lineWork_modLine ..

/-- A frame taken after the state `t` that its examination leaves: the channel is `t`'s, and what was told stays told. -/
structure TakenAfter (l : Line) (s t u : State) : Prop where
  work : LineWork l s u
  chan : (u.line l).chan = (t.line l).chan
  sup : (u.line l).sup = (t.line l).sup
  restarts : (u.line l).ctr.agreementRestarts = (t.line l).ctr.agreementRestarts
  stays : FlagsStay t u

/-- What the owner's frame for an open channel leaves (R37, R53). -/
theorem exec_mediaTaken_after {p : Port} {l : Line} {s : State} {body : List Byte} {f : MediaFrame}
    (h : OwnerSends p l s) (hm : mediaOf body = some f) (hl : f.line = l) :
    ∃ u, exec (.mediaTaken p body) s = .next u ∧ TakenAfter l s (examineFrame l f.word s) u := by
  obtain ⟨b, t, k, hline, hk⟩ := line_deliverFrame l (recordFrame (s.line l) f) (examineFrame l f.word s)
  have hwork := lineWork_deliverFrame l (recordFrame (s.line l) f) (examineFrame l f.word s)
  refine ⟨_, exec_mediaTaken_open h hm hl, (lineWork_examineFrame l f.word s).trans hwork, ?_, ?_, ?_, hwork.stays⟩
  · rw [hline]
  · rw [hline]
  · rw [hline]; exact hk

/-! ### Words, bare frames and the timer (R39 to R43) -/

theorem sameWord_iff (r w : ModeWord) :
    sameWord (some r) w = true ↔ r.ability = w.ability ∧ r.mediaClass = w.mediaClass := decide_eq_true_iff

/-- A received word changes channel and counters of its line alone. -/
theorem line_receiveWord (l : Line) (w : ModeWord) (s : State) : ∃ c k,
    (receiveWord l w s).line l = { s.line l with chan := c, ctr := k } := by
  have hrematch : ∃ c k, (wordInAdvertise l w (restartAgreement l s)).line l = { s.line l with chan := c, ctr := k } :=
    ⟨_, _, by rw [line_wordInAdvertise, line_restartAgreement]; rfl⟩
  unfold receiveWord
  split
  · exact ⟨_, _, line_wordInAdvertise ..⟩
  · obtain h | h | h := wordInMatched_cases l w s <;> rw [h]
    · exact ⟨_, _, line_confirm ..⟩
    · exact ⟨_, _, rfl⟩
    · exact ⟨_, _, line_modChan_same ..⟩
  · split
    · exact ⟨_, _, rfl⟩
    · exact hrematch
  · exact hrematch

/-- A confirmed choice is the mode (R40, R49). -/
theorem confirmedChan_eq {c : MediaChannel} {m : Mode} (h : c.choice = some m) : confirmedChan c =
    { c with
      agreement := .confirmed, mode := m, agreementTimer := none
      reprime := c.reprime || (decide (c.mode.mediaClass = .voice) && decide (m.mediaClass = .data)) } := by
  have hm : c.choice.getD c.mode = m := by rw [h]; rfl
  rw [confirmedChan, hm]
  rfl

/-- A restart and the match of a new word, on an open channel (R41). -/
theorem chan_rematch {l : Line} {w : ModeWord} {s : State} (h : (s.line l).buf.state.isOpen = true) :
    ((wordInAdvertise l w (restartAgreement l s)).line l).chan =
      { recordWord w { (s.line l).chan with flags := AgreementFlags.clear, bareCount := 0 } with
        agreement := .matched, agreementTimer := some (s.line l).ms } := by
  rw [line_wordInAdvertise, line_restartAgreement]
  simp only [restarted, h, if_true]
  rfl

/-- A word that starts the agreement anew (R41). -/
theorem receiveWord_rematches {l : Line} {w : ModeWord} {s : State}
    (h : (s.line l).chan.agreement = .presumed
      ∨ ((s.line l).chan.agreement = .confirmed ∧ ∃ r, (s.line l).chan.farWord = some r
        ∧ ¬ (r.ability = w.ability ∧ r.mediaClass = w.mediaClass))) :
    receiveWord l w s = wordInAdvertise l w (restartAgreement l s) := by
  obtain h | ⟨h, r, hr, hne⟩ := h
  · simp only [receiveWord, h]
  · simp only [receiveWord, h, hr, sameWord_iff, if_neg hne]

/-- What a received word leaves of a channel, and whom it tells, by the agreement state (R39 to R41). -/
structure WordActs (p : Port) (l : Line) (w : ModeWord) (s u : State) : Prop where
  advertise : (s.line l).chan.agreement = .advertise →
    (u.line l).chan = { recordWord w { (s.line l).chan with bareCount := 0 } with agreement := .matched }
      ∧ isLatched (u.port p).flags (.agreementChanged l) = true
  repeated : (s.line l).chan.agreement = .matched → sameWord (s.line l).chan.farWord w = true → w.ack = false →
    (u.line l).chan = (s.line l).chan
  acknowledged : (s.line l).chan.agreement = .matched → sameWord (s.line l).chan.farWord w = true → w.ack = true →
    (u.line l).chan = confirmedChan (s.line l).chan ∧ isLatched (u.port p).flags (.agreementChanged l) = true
  changed : (s.line l).chan.agreement = .matched → sameWord (s.line l).chan.farWord w = false →
    (u.line l).chan = recordWord w (s.line l).chan
  settled : (s.line l).chan.agreement = .confirmed → sameWord (s.line l).chan.farWord w = true →
    (u.line l).chan = (s.line l).chan

theorem wordActs {p : Port} {l : Line} {w : ModeWord} {s u : State} (ho : (s.line l).owner = some p)
    (h : TakenAfter l s (receiveWord l w s) u) : WordActs p l w s u where
  advertise ha := by
    have hw : receiveWord l w s = wordInAdvertise l w s := by simp only [receiveWord, ha]
    have htold := h.stays
    rw [hw] at htold
    rw [h.chan, hw, line_wordInAdvertise]
    exact ⟨rfl, htold _ _ (wordInAdvertise_told (by simp [ha]) ho)⟩
  repeated ha hs hk := by
    rw [h.chan, show receiveWord l w s = s by simp only [receiveWord, ha, wordInMatched_same hs hk]]
  acknowledged ha hs hk := by
    have hw : receiveWord l w s = confirm l s := by simp only [receiveWord, ha, wordInMatched_ack hs hk]
    have htold := h.stays
    rw [hw] at htold
    rw [h.chan, hw, line_confirm]
    exact ⟨rfl, htold _ _ (confirm_told (by simp [ha]) ho)⟩
  changed ha hs := by
    have hw : receiveWord l w s = s.modChan l (recordWord w) := by simp only [receiveWord, ha, wordInMatched_other hs]
    rw [h.chan, hw, line_modChan_same]
  settled ha hs := by
    rw [h.chan, show receiveWord l w s = s by simp only [receiveWord, ha, hs, if_true]]

/-- The timer has expired in a state it governs. -/
theorem agreementDue_iff {x : LineState} : agreementDue x = true ↔
    (∃ t, x.chan.agreementTimer = some t ∧ 2000 ≤ (x.ms - t).toNat)
      ∧ (x.chan.agreement = .advertise ∨ x.chan.agreement = .matched) := by
  simp only [agreementDue, Bool.and_eq_true, Bool.or_eq_true, decide_eq_true_iff]
  refine and_congr_left fun _ => ?_
  cases x.chan.agreementTimer with
  | none => exact ⟨nofun, fun ⟨_, h, _⟩ => nomatch h⟩
  | some t => exact (hasRun_iff x.ms t 2000).trans ⟨fun h => ⟨t, rfl, h⟩, fun ⟨_, rfl, h⟩ => h⟩

/-- Settles O56: each frame is examined and then delivered, which leaves the channel; the timer enters PRESUMED. -/
theorem agreementFollowsWords : Obligations.AgreementFollowsWords := by
  intro l s
  refine ⟨fun p w body hsends hbody => ?_, fun p body r hsends hbody => ?_, fun t ht hdue hstate => ?_, fun hearly => ?_⟩
  · obtain ⟨f, hm, hline, hword⟩ := mediaOf_wordBody hbody
    obtain ⟨u, hexec, htaken⟩ := exec_mediaTaken_after hsends hm hline
    rw [hword, examineFrame] at htaken
    have hacts := wordActs hsends.2.1 htaken
    obtain ⟨c, k, hrecv⟩ := line_receiveWord l w s
    refine ⟨u, hexec, ?_, htaken.work.elsewhere, htaken.work.ports, fun ha => ?_, fun r hr same hsame =>
      ⟨fun ha => ⟨fun hs hk => ?_, fun hs hk m hc => ?_, fun hs => ?_⟩, fun ha hs => ?_⟩, fun hre => ?_⟩
    · rw [htaken.sup, hrecv]
    · obtain ⟨hchan, htold⟩ := hacts.advertise ha
      exact ⟨_, _, _, chosen_chooseMode .., hchan, htold⟩
    · exact hacts.repeated ha (by rw [hr, sameWord_iff]; exact hsame.mp hs) hk
    · obtain ⟨hchan, htold⟩ := hacts.acknowledged ha (by rw [hr, sameWord_iff]; exact hsame.mp hs) hk
      exact ⟨hchan.trans (confirmedChan_eq hc), htold⟩
    · have hdiff : sameWord (s.line l).chan.farWord w = false := by
        rw [hr, ← Bool.not_eq_true, sameWord_iff]; exact mt hsame.mpr hs
      exact ⟨_, _, _, chosen_chooseMode .., hacts.changed ha hdiff⟩
    · exact hacts.settled ha (by rw [hr, sameWord_iff]; exact hsame.mp hs)
    · obtain ⟨-, ho, hopen⟩ := hsends
      have hw := receiveWord_rematches hre
      refine ⟨_, _, _, chosen_chooseMode _ _ w AgreementFlags.clear, ?_, ?_, ?_⟩
      · rw [htaken.chan, hw, chan_rematch hopen]
        rfl
      · rw [htaken.restarts, hw, line_wordInAdvertise, line_restartAgreement]
        rfl
      · refine htaken.stays _ _ ?_
        rw [hw]
        refine wordInAdvertise_told ?_ ?_ <;> rw [line_restartAgreement]
        · nofun
        · exact ho
  · obtain ⟨f, hm, hline, hword, -⟩ := mediaOf_bareBody hbody
    obtain ⟨u, hexec, htaken⟩ := exec_mediaTaken_after hsends hm hline
    rw [hword, examineFrame] at htaken
    refine ⟨u, hexec, fun ha => ?_, fun ha hn => ?_, fun ha hn => ⟨?_, htaken.stays _ _ ?_⟩⟩
    · rw [htaken.chan, receiveBare_outside ha]
    · rw [htaken.chan, receiveBare_counts ha hn, line_countBare]
    · rw [htaken.chan, receiveBare_presumes ha (Nat.le_of_eq hn.symm), line_presumeSilent, hn]
    · rw [receiveBare_presumes ha (Nat.le_of_eq hn.symm)]
      refine enterPresumed_told ?_ ?_ <;> rw [line_countBare]
      · rw [ha]; nofun
      · exact hsends.2.1
  · have hexec : exec (.agreementTimeout l) s = .next
        (enterPresumed l (fun c => { c with choice := none, flags := { c.flags with timeout := true } }) s) :=
      congrArg _ (if_pos (agreementDue_iff.mpr ⟨⟨t, ht, hdue⟩, hstate⟩))
    have hwork := lineWork_enterPresumed l
      (fun c => { c with choice := none, flags := { c.flags with timeout := true } }) s
    refine ⟨_, hexec, by rw [line_enterPresumed]; rfl, hwork.elsewhere, hwork.ports, fun q hq => ?_⟩
    refine enterPresumed_told (fun hp => ?_) hq
    rw [hp] at hstate
    exact hstate.elim nofun nofun
  · refine congrArg _ (if_neg fun hdue => ?_)
    obtain ⟨⟨t, ht, hlate⟩, -⟩ := agreementDue_iff.mp hdue
    have := hearly t ht
    omega

end Sys2Proof.Machine
end

section
/-! SUPPORT. Settled: the frame built at an uplink boundary and its way to the owner's queue; the LOG8 and LIN16 codes (R28 to
R33, R184). -/

namespace Sys2Proof.Machine

open Sys2Proof.Claim

/-! ### LOG8 (R32) -/

/-- The highest set bit found at or below bit `p` spans the number. -/
theorem highestBit_spans {u : Nat} (hu : 0 < u) :
    ∀ p, u < 2 ^ (p + 1) → 2 ^ highestBit u p ≤ u ∧ u < 2 ^ (highestBit u p + 1) := by
  intro p
  induction p with
  | zero => exact fun h => ⟨hu, h⟩
  | succ p ih =>
    intro h
    unfold highestBit
    split
    next hbit => exact ⟨Nat.ge_two_pow_of_testBit hbit, h⟩
    next hbit =>
      refine ih ?_
      by_contra hge
      have hquot : u / 2 ^ (p + 1) = 1 :=
        Nat.div_eq_of_lt_le (by omega) (by rw [show (1 + 1) * 2 ^ (p + 1) = 2 ^ (p + 1 + 1) by ring]; exact h)
      exact hbit (by rw [Nat.testBit_eq_decide_div_mod_eq, hquot]; rfl)

/-- The encoder gives the LOG8 code (R32). -/
theorem log8Code_encode (x : Sample) : Log8Code x (log8Encode x) := by
  have hv : (x.sshiftRight 2).toInt = x.toInt / 4 := by
    rw [BitVec.toInt_sshiftRight, Int.shiftRight_eq_div_pow]; rfl
  have hspan := highestBit_spans (u := log8Magnitude x) (by unfold log8Magnitude; omega) 12
    (by unfold log8Magnitude; omega)
  refine ⟨x.toInt / 4, log8Magnitude x, highestBit (log8Magnitude x) 12, rfl, ?_, hspan.1, hspan.2, ?_⟩
  · rw [log8Magnitude, hv]
  · simp only [log8Encode, log8Sign, hv, byteOf, decide_eq_true_eq]

/-! ### The frame (R28 to R32) -/

/-- The 80 samples that a frame carries (R28, R31). -/
def frameSamples (c : MediaChannel) : List Sample :=
  (c.gathered.take 80).map fun x => if muted c (c.gathered.take 80) then 0 else x.sample

theorem uplinkFrame_payload (l : Line) (c : MediaChannel) :
    (uplinkFrame l c).payload = encodePayload c.mode.payload (frameSamples c) := rfl

theorem payload_eq (m : Mode) : m.payload = if m = .v8 ∨ m = .d8 then .log8 else .lin16 := by cases m <;> rfl

theorem log8Codes_payload (xs : List Sample) : List.Forall₂ Log8Code xs (encodePayload .log8 xs) := by
  rw [encodePayload, List.forall₂_map_right_iff, List.forall₂_same]
  exact fun x _ => log8Code_encode x

theorem frameSamples_muted {c : MediaChannel} (hlen : 80 ≤ c.gathered.length) (hr : c.params.relay = true)
    (hv : c.mode.mediaClass = .voice) (hd : ∃ g ∈ c.gathered.take 80, g.digit = true) :
    frameSamples c = List.replicate 80 0 := by
  have hm : muted c (c.gathered.take 80) = true := by
    simp only [muted, hr, hv, decide_true, Bool.true_and, List.any_eq_true]
    exact hd
  simp only [frameSamples, hm, if_true, List.map_const', List.length_take, Nat.min_eq_left hlen]

theorem frameSamples_heard {c : MediaChannel} (h : c.params.relay = false ∨ c.mode.mediaClass = .data
    ∨ ∀ g ∈ c.gathered.take 80, g.digit = false) : frameSamples c = (c.gathered.take 80).map Gathered.sample := by
  have hm : muted c (c.gathered.take 80) = false := by
    rw [← Bool.not_eq_true]
    simp only [muted, Bool.and_eq_true, decide_eq_true_eq, List.any_eq_true]
    rintro ⟨⟨hr, hv⟩, g, hg, hd⟩
    obtain h | h | h := h
    · rw [h] at hr; cases hr
    · rw [h] at hv; cases hv
    · rw [h g hg] at hd; cases hd
  simp only [frameSamples, hm]
  rfl

/-- The mode word of a frame, by the agreement state and the sequence (R30). -/
theorem uplinkFrame_word (l : Line) (c : MediaChannel) : (uplinkFrame l c).word =
    if c.agreement = .advertise ∨ c.agreement = .matched ∨ (c.agreement = .confirmed ∧ c.nextSequence.toNat % 10 = 0)
        ∨ (c.agreement = .presumed ∧ c.nextSequence.toNat % 50 = 0)
      then some { ability := c.ability, mediaClass := c.requestedClass
                  ack := decide (c.agreement = .matched ∨ c.agreement = .confirmed)
                  mode := match c.agreement, c.choice with
                    | .matched, some m => m
                    | _, _ => c.mode }
      else none := by
  simp only [uplinkFrame, carriesWord, ownWord]
  cases c.agreement with
  | matched => cases c.choice <;> simp
  | advertise => simp
  | confirmed => simp
  | presumed => simp

/-! ### The owner's queue (R29, R184) -/

theorem takeMedia_oldest {before : List Message} (h : ∀ m ∈ before, m.isReply = true) (g : MediaFrame)
    (after : List Message) : takeMedia (before ++ .media g :: after) = (some g, before ++ after) := by
  induction before with
  | nil => rfl
  | cons m before ih =>
    have hb := ih fun n hn => h n (List.mem_cons_of_mem _ hn)
    cases m with
    | media f => exact absurd (h _ List.mem_cons_self) nofun
    | reply r => simp only [List.cons_append, takeMedia, hb]

/-- The oldest media frame that no READ is sending stands behind replies, or behind the head under way and replies. -/
theorem takeOldest_eq {q : PortLink} {before after : List Message} {g : MediaFrame}
    (ho : q.outbound = before ++ .media g :: after)
    (h : q.sending ≠ .head ∧ (∀ m ∈ before, m.isReply = true)
      ∨ q.sending = .head ∧ ∃ m ms, before = m :: ms ∧ ∀ n ∈ ms, n.isReply = true) :
    takeOldest q = (some g, before ++ after) := by
  obtain ⟨hs, hb⟩ | ⟨hs, m, ms, rfl, hb⟩ := h
  · have htake : takeOldest q = takeMedia q.outbound := by
      unfold takeOldest
      split
      next he _ => exact absurd he hs
      next => rfl
    rw [htake, ho, takeMedia_oldest hb]
  · rw [List.cons_append] at ho
    simp only [takeOldest, hs, ho, takeMedia_oldest hb, List.cons_append]

theorem modPort_modCtr (s : State) (p : Port) (l : Line) (f : PortLink → PortLink)
    (k : ChannelCounters → ChannelCounters) : (s.modCtr l k).modPort p f = (s.modPort p f).modCtr l k := by
  cases p <;> cases l <;> rfl

theorem routeUplink_unowned {l : Line} {f : MediaFrame} {s : State} (h : (s.line l).owner = none) :
    routeUplink l f s = s.modCtr l fun k => { k with uplinkUnrouted := satAdd k.uplinkUnrouted 1 } := by
  simp only [routeUplink, h]

theorem routeUplink_room {l : Line} {f : MediaFrame} {s : State} {p : Port} (h : (s.line l).owner = some p)
    (hroom : mediaCount (s.port p) < 24) : routeUplink l f s =
      (s.modPort p fun q => { q with outbound := q.outbound ++ [.media f] }).modCtr l fun k =>
        { k with uplinkSent := satAdd k.uplinkSent 1 } := by
  simp only [routeUplink, h]
  rw [makeRoom, if_pos (show _ < Config.mediaPlaces from hroom)]
  rfl

theorem routeUplink_full {l : Line} {f g : MediaFrame} {s : State} {p : Port} {before after : List Message}
    (h : (s.line l).owner = some p) (hfull : mediaCount (s.port p) = 24)
    (htake : takeOldest (s.port p) = (some g, before ++ after)) : routeUplink l f s =
      ((s.modCtr g.line fun k => { k with uplinkDropped := satAdd k.uplinkDropped 1 }).modPort p fun q =>
        { q with outbound := before ++ after ++ [.media f] }).modCtr l fun k =>
          { k with uplinkSent := satAdd k.uplinkSent 1 } := by
  have hroom : makeRoom p s = (s.modPort p fun q => { q with outbound := before ++ after }).modCtr g.line fun k =>
      { k with uplinkDropped := satAdd k.uplinkDropped 1 } := by
    rw [makeRoom, if_neg (by rw [hfull]; decide), htake]
  simp only [routeUplink, h, hroom, enqueueMessage, modPort_modCtr, modPort_comp]

/-! ### UPLINK_BOUNDARY -/

theorem uplinkDue_iff {x : LineState} : uplinkDue x = true ↔ x.buf.state.isOpen = true ∧ 80 ≤ x.chan.gathered.length := by
  simp only [uplinkDue, Bool.and_eq_true, decide_eq_true_eq]
  rfl

/-- Settles O52: the frame is `uplinkFrame`'s, with its samples as R31 leaves them, and is routed from the channel it
leaves. -/
theorem uplinkFrameBuiltAndRouted : Obligations.UplinkFrameBuiltAndRouted := by
  intro l s
  refine ⟨fun hopen hlen => ?_, fun hnot => congrArg _ (if_neg fun hdue => ?_)⟩
  · have hexec : exec (.uplinkBoundary l) s
        = .next (routeUplink l (uplinkFrame l (s.line l).chan) (s.modChan l afterUplink)) :=
      congrArg _ (if_pos (uplinkDue_iff.mpr ⟨hopen, hlen⟩))
    rw [hexec]
    refine ⟨uplinkFrame l (s.line l).chan, frameSamples (s.line l).chan, rfl, rfl, rfl, payload_eq _, fun hk => ?_,
      fun hk => ?_, frameSamples_muted hlen, frameSamples_heard, uplinkFrame_word l _, ?_⟩
    · rw [uplinkFrame_payload, show (s.line l).chan.mode.payload = .log8 from hk]
      exact log8Codes_payload _
    · rw [uplinkFrame_payload, show (s.line l).chan.mode.payload = .lin16 from hk]
      rfl
    · rintro t rfl
      have howner : ((s.modChan l afterUplink).line l).owner = (s.line l).owner := by rw [line_modChan_same]
      have hport (p : Port) : (s.modChan l afterUplink).port p = s.port p := port_modChan ..
      refine ⟨fun ho => congrArg _ (routeUplink_unowned (howner.trans ho)), fun p ho => ⟨fun hroom => ?_,
        fun before g after hout hfull hplace => ?_⟩⟩
      · exact congrArg _ (routeUplink_room (howner.trans ho) (by rw [hport]; exact hroom))
      · refine congrArg _ (routeUplink_full (howner.trans ho) (by rw [hport]; exact hfull) ?_)
        rw [hport]
        exact takeOldest_eq hout hplace
  · obtain ⟨hopen, hlen⟩ := uplinkDue_iff.mp hdue
    obtain h | h := hnot
    · rw [h] at hopen; cases hopen
    · omega

end Sys2Proof.Machine
end

section
/-! SUPPORT. The frame-start, said once: decoding of stored payloads, the frame at the playout point, the switch of a splice, and
the period of each channel state (R33, R34, R60 to R66, R72, R73, R88 to R93). -/

namespace Sys2Proof.Machine

open Sys2Proof.Claim

/-! ### Decoding (R33, R34) -/

/-- The decoder gives the sample of a LOG8 code (R33). -/
theorem log8Decode_of_sample {b : Byte} {y : Sample} (h : Log8Sample b y) : log8Decode b = y := by
  obtain ⟨k, t, m, hk, ht, hm, hy⟩ := h
  have hs : ((~~~b).extractLsb' 4 3).toNat = k := by rw [extract_toNat, hk]; rfl
  have hl : ((~~~b).extractLsb' 0 4).toNat = t := by rw [extract_toNat, ht]; simp
  rw [hy, hm]
  simp only [log8Decode, hs, hl, topBit_eq, decide_eq_true_eq]
  push_cast
  rfl

theorem lin16Decode_words (xs : List Sample) : lin16Decode (xs.flatMap fun v => [hiByte v, loByte v]) = xs := by
  induction xs with
  | nil => rfl
  | cons v xs ih => simp only [List.flatMap_cons, List.cons_append, List.nil_append, lin16Decode, wordOf_bytes, ih]

/-- A stored frame decodes to the samples of its payload (R34). -/
theorem decodePayload_of_decoded {r : FrameRecord} {xs : List Sample} (h : Decoded r xs) :
    decodePayload r.kind r.payload = xs := by
  obtain ⟨hlog8, hlin16⟩ := h
  cases hk : r.kind with
  | log8 =>
    have hall := hlog8 hk
    rw [decodePayload, ← List.forall₂_eq_eq_eq, List.forall₂_map_left_iff]
    exact hall.imp fun _ _ => log8Decode_of_sample
  | lin16 => rw [decodePayload, hlin16 hk, lin16Decode_words]

/-! ### The frame at the playout point (R52) -/

theorem stored_eq_some_iff (slots : Slots) (q : Word) (r : FrameRecord) : stored? slots q = some r ↔ Holds slots q r := by
  unfold stored? Holds
  cases slots[slotOf q] with
  | none => simp
  | some g =>
    simp only [Option.some.injEq]
    split
    next hg => exact ⟨fun h => by cases h; exact ⟨rfl, hg⟩, fun ⟨h, _⟩ => congrArg some h⟩
    next hg => exact ⟨nofun, fun ⟨h, hr⟩ => absurd (h ▸ hr) hg⟩

theorem presentAtPoint_some {b : PlayoutBuffer} {P : Word} {r : FrameRecord} (hP : b.playoutPoint = some P)
    (hr : Holds b.slots P r) : presentAtPoint b = some r := by
  rw [presentAtPoint, hP]
  exact (stored_eq_some_iff ..).mpr hr

theorem presentAtPoint_none {b : PlayoutBuffer}
    (h : ∀ P, b.playoutPoint = some P → ∀ r, ¬ Holds b.slots P r) : presentAtPoint b = none := by
  rw [presentAtPoint]
  cases hP : b.playoutPoint with
  | none => rfl
  | some P =>
    rw [Option.bind_some, Option.eq_none_iff_forall_ne_some]
    exact fun r hr => h P hP r ((stored_eq_some_iff ..).mp hr)

theorem isStored_eq_any (slots : Slots) (q : Word) :
    isStored slots q = slots[slotOf q].any (fun g => g.sequence == q) := by
  unfold isStored stored?
  cases slots[slotOf q] with
  | none => rfl
  | some g => by_cases h : g.sequence = q <;> simp [h]

/-! ### The switch of a splice (R72, R73) -/

theorem switchReady_of_noSwitch {b : PlayoutBuffer} (h : NoSwitch b) : switchReady b = false := by
  obtain h | h := h <;> simp [switchReady, h]

/-- The first frame of a new stream sets the playout point. -/
theorem arrive_first {x : LineState} (hP : x.buf.playoutPoint = none) (hs : x.buf.slots = Slots.empty) (r : FrameRecord) :
    arrive x r = joined x r ∧ alertsOnArrival x r = false := by
  have hc : classify x.buf r.sequence = .stored := by rw [classify, hP]
  have hany : x.buf.slots[slotOf r.sequence].any (fun g => g.sequence == r.sequence) = false := by
    rw [← isStored_eq_any, hs, isStored, stored_empty]; rfl
  refine ⟨?_, by rw [alertsOnArrival, hc]; rfl⟩
  rw [arrive, hc, joined, if_neg (by rw [hany]; nofun)]
  rfl

/-- A frame of the window that the playout point opens is a duplicate or is stored. -/
theorem arrive_window {x : LineState} {P : Word} {r : FrameRecord} (hP : x.buf.playoutPoint = some P)
    (h0 : 0 ≤ (r.sequence - P).toInt) (h63 : (r.sequence - P).toInt ≤ 63) :
    arrive x r = joined x r ∧ alertsOnArrival x r = false := by
  have hc : classify x.buf r.sequence
      = if x.buf.slots[slotOf r.sequence].any (fun g => g.sequence == r.sequence) then .duplicate else .stored := by
    rw [classify, hP, ← isStored_eq_any]
    exact if_pos ⟨h0, h63⟩
  rw [arrive, alertsOnArrival, hc, joined]
  split
  · exact ⟨rfl, rfl⟩
  · exact ⟨rfl, rfl⟩

/-- The playout point stays through the frames that join it. -/
theorem joined_point {x : LineState} {P : Word} {r : FrameRecord} (hP : x.buf.playoutPoint = some P) :
    (joined x r).buf.playoutPoint = some P := by
  unfold joined
  split
  · exact hP
  · simp only [hP, Option.getD_some]

theorem arriveAll_window (P : Word) (rs : List FrameRecord)
    (h : ∀ g ∈ rs, 0 ≤ (g.sequence - P).toInt ∧ (g.sequence - P).toInt ≤ 63) :
    ∀ x : LineState, x.buf.playoutPoint = some P → arriveAll x rs = (rs.foldl joined x, false) := by
  induction rs with
  | nil => exact fun x _ => rfl
  | cons r rs ih =>
    intro x hP
    obtain ⟨h0, h63⟩ := h r List.mem_cons_self
    obtain ⟨ha, halert⟩ := arrive_window hP h0 h63
    rw [arriveAll, ha, halert, ih (fun g hg => h g (List.mem_cons_of_mem _ hg)) _ (joined_point hP)]
    rfl

/-- A switch whose queued frames lie in one window restarts nothing. -/
theorem switchStream_window {x : LineState} {f : FrameRecord} {fs : List FrameRecord} (hq : x.buf.spliceQueue = f :: fs)
    (h : ∀ g ∈ fs, 0 ≤ (g.sequence - f.sequence).toInt ∧ (g.sequence - f.sequence).toInt ≤ 63) :
    switchStream x = (switched x, false) := by
  obtain ⟨hfirst, halert⟩ := arrive_first (x := { x with buf := { x.buf with
    slots := Slots.empty, playoutPoint := none, state := .priming, missing := 0, spliceQueue := [] } }) rfl rfl f
  have hpoint : (joined { x with buf := { x.buf with
      slots := Slots.empty, playoutPoint := none, state := .priming, missing := 0, spliceQueue := [] } } f).buf.playoutPoint
      = some f.sequence := by
    rw [← hfirst, arrive, classify]; rfl
  have hall : arriveAll { x with buf := { x.buf with
      slots := Slots.empty, playoutPoint := none, state := .priming, missing := 0, spliceQueue := [] } } (f :: fs)
      = ((f :: fs).foldl joined { x with buf := { x.buf with
          slots := Slots.empty, playoutPoint := none, state := .priming, missing := 0, spliceQueue := [] } }, false) := by
    rw [arriveAll, hfirst, halert, arriveAll_window f.sequence fs h _ hpoint]
    rfl
  simp only [switchStream, switched, hq, hall]
  rfl

theorem joined_kept (x : LineState) (r : FrameRecord) :
    (joined x r).chan = x.chan ∧ (joined x r).buf.state = x.buf.state ∧ (joined x r).buf.period = x.buf.period := by
  unfold joined
  split <;> exact ⟨rfl, rfl, rfl⟩

theorem foldl_joined_kept (rs : List FrameRecord) : ∀ x : LineState,
    (rs.foldl joined x).chan = x.chan ∧ (rs.foldl joined x).buf.state = x.buf.state
      ∧ (rs.foldl joined x).buf.period = x.buf.period := by
  induction rs with
  | nil => exact fun _ => ⟨rfl, rfl, rfl⟩
  | cons r rs ih =>
    intro x
    obtain ⟨hc, hs, hp⟩ := joined_kept x r
    obtain ⟨kc, ks, kp⟩ := ih (joined x r)
    exact ⟨kc.trans hc, ks.trans hs, kp.trans hp⟩

/-- A switched line is PRIMING in the period under way, with no splice. -/
theorem switched_kept (x : LineState) : (switched x).chan = x.chan ∧ (switched x).buf.state = .priming
    ∧ (switched x).buf.period = x.buf.period ∧ (switched x).buf.splicePending = false := by
  obtain ⟨hc, hs, hp⟩ := foldl_joined_kept x.buf.spliceQueue { x with
    buf := { x.buf with slots := Vector.replicate 64 none, playoutPoint := none, state := .priming, missing := 0,
                        spliceQueue := [] } }
  exact ⟨hc, hs, hp, rfl⟩

/-! ### The values of a frame-start (R35, R85, R86) -/

theorem targetDepth_eq (x : LineState) : targetDepth x.chan.params x.mediaClass x.depth.jitter = targetNow x := by
  unfold targetDepth targetNow LineState.mediaClass
  cases x.chan.mode.mediaClass <;> rfl

theorem smoothUpdate_eq (x : LineState) (d : Nat) :
    smoothUpdate x.depth.smoothed d (smoothingShift x.chan.params x.mediaClass) = smoothedNow x d := by
  unfold smoothUpdate smoothedNow smoothingShift LineState.mediaClass
  cases x.chan.mode.mediaClass <;> rfl

/-- The Depth Tracker with T computed, and S and F as given. -/
def trackerAt (x : LineState) (S : Int) (F : Nat) : DepthTracker :=
  { x.depth with target := targetNow x, smoothed := S, since := F }

/-- The values that R35 gives a class. -/
theorem classValues {c : MediaClass} {h rate size : Nat} (hv : c = .voice → h = 40 ∧ rate = 4 ∧ size = 40)
    (hd : c = .data → h = 8 ∧ rate = 25 ∧ size = 1) : h = hysteresis c ∧ rate = rateLimit c ∧ size = trimSize c := by
  cases c with
  | voice => exact hv rfl
  | data => exact hd rfl

/-! ### The frame-start by the channel's state (R60 to R66) -/

theorem actOnReprime_off {x : LineState} (h : x.chan.reprime = false) : actOnReprime x = x := by simp [actOnReprime, h]

theorem startPeriod_priming {x : LineState} (h : x.chan.reprime = false) (hs : x.buf.state = .priming) :
    startPeriod x = primingStart x := by
  simp only [startPeriod, hs, reduceCtorEq, if_false, actOnReprime_off h]

theorem startPeriod_playing {x : LineState} (h : x.chan.reprime = false)
    (hs : x.buf.state = .playing ∨ x.buf.state = .concealing) : startPeriod x = playingStart x := by
  obtain hs | hs := hs <;> simp only [startPeriod, hs, reduceCtorEq, if_false, actOnReprime_off h]

theorem startPeriod_draining {x : LineState} (h : x.chan.reprime = false) (hs : x.buf.state = .draining) :
    startPeriod x = (drainingStart x, false) := by
  simp only [startPeriod, hs, reduceCtorEq, if_false, actOnReprime_off h]

/-- The line after a re-prime request has been acted on, as the claims say it (R49, R60). -/
theorem actOnReprime_on {x : LineState} (h : x.chan.reprime = true) : actOnReprime x = { x with
    chan := { x.chan with reprime := false }
    buf := if x.buf.state = .playing ∨ x.buf.state = .concealing then { x.buf with state := .priming, missing := 0 }
      else x.buf } := by
  rw [actOnReprime, if_pos h]
  cases hs : x.buf.state <;> simp

/-- A request acted on leaves what follows as from there. -/
theorem startPeriod_actOnReprime {x : LineState} (h : x.buf.state ≠ .closed) (hr : x.chan.reprime = true) :
    startPeriod (actOnReprime x) = startPeriod x := by
  have hclosed : (actOnReprime x).buf.state ≠ .closed := mt (playoutStep_actOnReprime x).closed.mp h
  have hoff : (actOnReprime x).chan.reprime = false := by rw [actOnReprime_on hr]
  simp only [startPeriod, if_neg hclosed, if_neg h, actOnReprime_off hoff]

theorem primingStart_stays {x : LineState} (h : NoSwitch x.buf) : primingStart x = (primingCheck x, false) := by
  rw [primingStart, switchReady_of_noSwitch h]; rfl

/-- With a switch ready the new stream is primed from the switched line. -/
theorem startPeriod_switches {x : LineState} {f : FrameRecord} {fs : List FrameRecord} (hr : x.chan.reprime = false)
    (hp : x.buf.splicePending = true) (hq : x.buf.spliceQueue = f :: fs)
    (hw : ∀ g ∈ fs, 0 ≤ (g.sequence - f.sequence).toInt ∧ (g.sequence - f.sequence).toInt ≤ 63)
    (hs : x.buf.state = .priming ∨ ((x.buf.state = .playing ∨ x.buf.state = .concealing)
      ∧ ∀ P, x.buf.playoutPoint = some P → ∀ r, ¬ Holds x.buf.slots P r)) :
    startPeriod x = startPeriod (switched x) := by
  obtain ⟨kc, ks, -, kp⟩ := switched_kept x
  have hready : switchReady x.buf = true := by simp [switchReady, hp, hq]
  have hafter : startPeriod (switched x) = (primingCheck (switched x), false) := by
    rw [startPeriod_priming (by rw [kc]; exact hr) ks, primingStart_stays (.inl kp)]
  rw [hafter]
  obtain hs | ⟨hs, hnone⟩ := hs
  · rw [startPeriod_priming hr hs, primingStart, if_pos hready, switchStream_window hq hw]
  · rw [startPeriod_playing hr hs, playingStart, presentAtPoint_none hnone]
    simp only [hready, if_true, switchStream_window hq hw]

/-- A buffer that has not reached its target, or has no frame at P, plays silence (R62). -/
theorem primingCheck_silent {x : LineState} (h : depthOf x.buf < targetNow x
      ∨ ∀ P, x.buf.playoutPoint = some P → ∀ r, ¬ Holds x.buf.slots P r) :
    primingCheck x = { x with
      depth := { x.depth with target := targetNow x }
      buf := { x.buf with period := { rest := List.replicate 80 0, trimmed := false } } } := by
  have hrefresh : refreshTarget x = { x with depth := { x.depth with target := targetNow x } } := by
    rw [refreshTarget, targetDepth_eq]
  simp only [primingCheck, hrefresh]
  obtain h | h := h
  · split
    · rw [if_neg (by omega)]; rfl
    · rfl
  · simp only [presentAtPoint_none h]; rfl

/-- A frame-start that plays the frame at P, with the S and F that its trim decision sees. -/
theorem startPeriod_plays {x : LineState} {P : Word} {r : FrameRecord} {S : Int} {F : Nat} (hr : x.chan.reprime = false)
    (hP : x.buf.playoutPoint = some P) (hholds : Holds x.buf.slots P r)
    (h : (x.buf.state = .priming ∧ NoSwitch x.buf ∧ targetNow x ≤ depthOf x.buf ∧ S = 16 * (depthOf x.buf : Int)
        ∧ F = rateLimit x.mediaClass)
      ∨ ((x.buf.state = .playing ∨ x.buf.state = .concealing) ∧ S = smoothedNow x (depthOf x.buf) ∧ F = x.depth.since)) :
    startPeriod x = (playFrame { x with depth := trackerAt x S F } r, false) := by
  have hrefresh : refreshTarget x = { x with depth := { x.depth with target := targetNow x } } := by
    rw [refreshTarget, targetDepth_eq]
  have hpresent := presentAtPoint_some hP hholds
  obtain ⟨hs, hno, hdepth, rfl, rfl⟩ | ⟨hs, rfl, rfl⟩ := h
  · rw [startPeriod_priming hr hs, primingStart_stays hno]
    simp only [primingCheck, hrefresh, hpresent]
    rw [if_pos hdepth]
    rfl
  · rw [startPeriod_playing hr hs, playingStart, hpresent]
    simp only [refreshSmoothed, hrefresh, trackerAt, ← smoothUpdate_eq]
    rfl

/-! ### The trim decision (R89 to R93) -/

/-- The line after a frame has been played with a trim. -/
def playedWith (x : LineState) (r : FrameRecord) (c : MediaClass) (trim : Trim) : LineState :=
  { x with
    depth := x.depth.afterTrim c trim
    ctr := x.ctr.afterTrim c trim
    buf := { x.buf with
      slots := x.buf.slots.set (slotOf r.sequence) none, playoutPoint := some (r.sequence + 1), missing := 0
      lastPlayed := some (decodePayload r.kind r.payload), state := .playing
      period := trimPeriod c (decodePayload r.kind r.payload) trim } }

theorem playFrame_eq (x : LineState) (r : FrameRecord) :
    playFrame x r = playedWith x r x.mediaClass (trimDecision x.mediaClass x.depth) := rfl

theorem trimDecision_none {c : MediaClass} {t : DepthTracker} (h : t.since < rateLimit c
      ∨ (16 * ((t.target - hysteresis c : Nat) : Int) ≤ t.smoothed
        ∧ t.smoothed ≤ 16 * ((t.target + hysteresis c : Nat) : Int))) : trimDecision c t = .none := by
  unfold trimDecision
  obtain h | ⟨hlow, hhigh⟩ := h
  · exact if_pos h
  · rw [if_neg (Int.not_lt.mpr hhigh), if_neg (Int.not_lt.mpr hlow), ite_self]

theorem trimDecision_surplus {c : MediaClass} {t : DepthTracker} (hf : rateLimit c ≤ t.since)
    (h : 16 * ((t.target + hysteresis c : Nat) : Int) < t.smoothed) : trimDecision c t = .surplus := by
  rw [trimDecision, if_neg (Nat.not_lt.mpr hf), if_pos h]

theorem trimDecision_deficit {c : MediaClass} {t : DepthTracker} (hf : rateLimit c ≤ t.since)
    (h : t.smoothed < 16 * ((t.target - hysteresis c : Nat) : Int)) : trimDecision c t = .deficit := by
  rw [trimDecision, if_neg (Nat.not_lt.mpr hf), if_neg (by omega), if_pos h]

/-! ### The start of a period at the ports (R57, R65, R117) -/

theorem exec_frameStart {l : Line} {s : State} (h : (s.line l).buf.period.rest = []) :
    exec (.frameStart l) s = .next (beginPeriod l s) :=
  congrArg _ (if_pos (show frameDue (s.line l) = true by simp [frameDue, h]))

/-- A frame-start that alerts nobody and closes nothing is a change of the line. -/
theorem beginPeriod_quiet {l : Line} {s : State} {y : LineState} (h : startPeriod (s.line l) = (y, false))
    (hc : (s.line l).buf.state ≠ .closed → y.buf.state ≠ .closed) : beginPeriod l s = s.modLine l fun _ => y := by
  simp only [beginPeriod, h]
  rw [if_neg fun ⟨h1, h2⟩ => hc h1 h2]
  rfl

/-- A frame-start that alerts the owner (R65). -/
theorem beginPeriod_alerts {l : Line} {s : State} {y : LineState} (h : startPeriod (s.line l) = (y, true))
    (hc : y.buf.state ≠ .closed) : beginPeriod l s = latchOwner l (.playoutAlert l) (s.modLine l fun _ => y) := by
  simp only [beginPeriod, h]
  rw [if_neg fun ⟨_, h2⟩ => hc h2]
  rfl

/-- The end of a drain, with the stop of the detectors (R66, R117). -/
theorem beginPeriod_closes {l : Line} {s : State} {y : LineState} (h : startPeriod (s.line l) = (y, false))
    (ho : (s.line l).buf.state ≠ .closed) (hc : y.buf.state = .closed) :
    beginPeriod l s = followDetectors l (s.modLine l fun _ => y) := by
  simp only [beginPeriod, h]
  rw [if_pos ⟨ho, hc⟩]
  rfl

/-- A change of the line that the frame-start does not see. -/
theorem beginPeriod_modLine {l : Line} {s : State} {f : LineState → LineState}
    (h : startPeriod (f (s.line l)) = startPeriod (s.line l))
    (hc : (f (s.line l)).buf.state = .closed ↔ (s.line l).buf.state = .closed) :
    beginPeriod l (s.modLine l f) = beginPeriod l s := by
  simp only [beginPeriod, line_modLine_same, h, modLine_comp, ne_eq, hc]

end Sys2Proof.Machine
end

section
/-! SUPPORT. Settled: the frame-start chooses the next period (R60 to R66). -/

namespace Sys2Proof.Machine

open Sys2Proof.Claim

/-- At the end of a period, while the channel is not CLOSED, no re-prime request is acted on twice. -/
theorem exec_frameStart_reprime {l : Line} {s : State} (hrest : (s.line l).buf.period.rest = [])
    (ho : (s.line l).buf.state ≠ .closed) (hr : (s.line l).chan.reprime = true) :
    exec (.frameStart l) s = exec (.frameStart l) (s.modLine l fun x => { x with
      chan := { x.chan with reprime := false }
      buf := if x.buf.state = .playing ∨ x.buf.state = .concealing then { x.buf with state := .priming, missing := 0 }
        else x.buf }) := by
  have hact := actOnReprime_on hr
  have hsame : (s.modLine l fun x => { x with
      chan := { x.chan with reprime := false }
      buf := if x.buf.state = .playing ∨ x.buf.state = .concealing then { x.buf with state := .priming, missing := 0 }
        else x.buf }) = s.modLine l actOnReprime := modLine_congr hact.symm
  have hperiod : (actOnReprime (s.line l)).buf.period = (s.line l).buf.period := by
    rw [hact]; dsimp only; split <;> rfl
  rw [hsame, exec_frameStart hrest, exec_frameStart (by rw [line_modLine_same, hperiod]; exact hrest),
    beginPeriod_modLine (startPeriod_actOnReprime ho hr) (playoutStep_actOnReprime _).closed]

/-- A switch that is ready is made first, and the rest is as from the switched line (R72, R73). -/
theorem exec_frameStart_switch {l : Line} {s : State} (hrest : (s.line l).buf.period.rest = [])
    {f : FrameRecord} {fs : List FrameRecord} (hr : (s.line l).chan.reprime = false)
    (hp : (s.line l).buf.splicePending = true) (hq : (s.line l).buf.spliceQueue = f :: fs)
    (hw : ∀ g ∈ fs, 0 ≤ (g.sequence - f.sequence).toInt ∧ (g.sequence - f.sequence).toInt ≤ 63)
    (hs : (s.line l).buf.state = .priming ∨ (((s.line l).buf.state = .playing ∨ (s.line l).buf.state = .concealing)
      ∧ ∀ P, (s.line l).buf.playoutPoint = some P → ∀ r, ¬ Holds (s.line l).buf.slots P r)) :
    exec (.frameStart l) s = exec (.frameStart l) (s.modLine l switched) := by
  obtain ⟨-, ks, kp, -⟩ := switched_kept (s.line l)
  have hopen : (s.line l).buf.state ≠ .closed := by rintro hc; rw [hc] at hs; simp at hs
  rw [exec_frameStart hrest, exec_frameStart (by rw [line_modLine_same, kp]; exact hrest),
    beginPeriod_modLine (startPeriod_switches hr hp hq hw hs).symm (by rw [ks]; simp [hopen])]

/-- The frame at P plays: the line is the frame played with the trim that S and F decide. -/
theorem exec_frameStart_plays {l : Line} {s : State} (hrest : (s.line l).buf.period.rest = []) {P : Word}
    {r : FrameRecord} {S : Int} {F : Nat} (hr : (s.line l).chan.reprime = false)
    (hP : (s.line l).buf.playoutPoint = some P) (hholds : Holds (s.line l).buf.slots P r)
    (h : ((s.line l).buf.state = .priming ∧ NoSwitch (s.line l).buf ∧ targetNow (s.line l) ≤ depthOf (s.line l).buf
        ∧ S = 16 * (depthOf (s.line l).buf : Int) ∧ F = rateLimit (s.line l).mediaClass)
      ∨ (((s.line l).buf.state = .playing ∨ (s.line l).buf.state = .concealing)
        ∧ S = smoothedNow (s.line l) (depthOf (s.line l).buf) ∧ F = (s.line l).depth.since)) :
    exec (.frameStart l) s = .next (s.modLine l fun x => playedWith { x with depth := trackerAt (s.line l) S F } r
      (s.line l).mediaClass (trimDecision (s.line l).mediaClass (trackerAt (s.line l) S F))) := by
  rw [exec_frameStart hrest, beginPeriod_quiet (startPeriod_plays hr hP hholds h) fun _ => nofun]
  exact congrArg _ (modLine_congr (playFrame_eq _ r))

/-- A line played with a trim, as the claims say it. -/
theorem modLine_playedWith {l : Line} {s : State} {P : Word} {r : FrameRecord} {xs : List Sample} {t : DepthTracker}
    {c : MediaClass} {trim : Trim} (hP : r.sequence = P) (hxs : decodePayload r.kind r.payload = xs) :
    (s.modLine l fun x => playedWith { x with depth := t } r c trim)
      = played l P xs (t.afterTrim c trim) ((s.line l).ctr.afterTrim c trim) (trimPeriod c xs trim) s := by
  subst hP hxs
  exact modLine_congr rfl

theorem trimPeriod_surplus (c : MediaClass) (xs : List Sample) : trimPeriod c xs .surplus =
    { rest := if c = .voice then xs.drop 40 else xs.take 79, trimmed := true } := by cases c <;> rfl

theorem trimPeriod_deficit (c : MediaClass) (xs : List Sample) : trimPeriod c xs .deficit =
    { rest := xs ++ xs.drop (80 - trimSize c), trimmed := true } := by cases c <;> rfl

/-- The three outcomes of the trim decision, by the values of the class (R89 to R93). -/
theorem frameStart_trims {l : Line} {s : State} (hrest : (s.line l).buf.period.rest = []) {P : Word} {r : FrameRecord}
    {xs : List Sample} {S : Int} {F : Nat} (hr : (s.line l).chan.reprime = false)
    (hP : (s.line l).buf.playoutPoint = some P) (hholds : Holds (s.line l).buf.slots P r) (hxs : Decoded r xs)
    {c : MediaClass} (hc : (s.line l).mediaClass = c)
    (h : ((s.line l).buf.state = .priming ∧ NoSwitch (s.line l).buf ∧ targetNow (s.line l) ≤ depthOf (s.line l).buf
        ∧ S = 16 * (depthOf (s.line l).buf : Int) ∧ F = rateLimit c)
      ∨ (((s.line l).buf.state = .playing ∨ (s.line l).buf.state = .concealing)
        ∧ S = smoothedNow (s.line l) (depthOf (s.line l).buf) ∧ F = (s.line l).depth.since)) (trim : Trim)
    (htrim : trimDecision c (trackerAt (s.line l) S F) = trim) :
    exec (.frameStart l) s = .next (played l P xs ((trackerAt (s.line l) S F).afterTrim c trim)
      ((s.line l).ctr.afterTrim c trim) (trimPeriod c xs trim) s) := by
  subst hc htrim
  rw [exec_frameStart_plays hrest hr hP hholds h,
    modLine_playedWith hholds.2 (decodePayload_of_decoded hxs)]

/-- A frame-start that finds no frame at P and conceals, or gives up (R63 to R65). -/
theorem passOver_eq (x : LineState) (P : Word) (hP : x.buf.playoutPoint = some P) : passOver x =
    if x.buf.missing + 1 < concealmentLimit x.mediaClass then
      ({ x with
        depth := { x.depth with target := targetNow x, smoothed := smoothedNow x 0 }
        buf := { x.buf with
          playoutPoint := some (P + 1), missing := x.buf.missing + 1, state := .concealing
          period := concealment x (x.buf.missing + 1) }
        ctr := { x.ctr with concealed := satAdd x.ctr.concealed 1 } }, false)
    else
      ({ x with
        depth := { x.depth with target := targetNow x, smoothed := smoothedNow x 0 }
        buf := { x.buf with
          playoutPoint := some (P + 1), missing := 0, state := .priming
          period := { rest := List.replicate 80 0, trimmed := false } }
        ctr := { x.ctr with concealed := satAdd x.ctr.concealed 1 } }, true) := by
  simp only [passOver, refreshSmoothed, refreshTarget, targetDepth_eq, hP, Option.map_some, ← smoothUpdate_eq]
  rfl

theorem startPeriod_passes {x : LineState} (hr : x.chan.reprime = false) {P : Word} (hP : x.buf.playoutPoint = some P)
    (hnone : ∀ r, ¬ Holds x.buf.slots P r) (hs : x.buf.state = .playing ∨ x.buf.state = .concealing)
    (hno : NoSwitch x.buf) : startPeriod x = passOver x := by
  have hpresent : presentAtPoint x.buf = none :=
    presentAtPoint_none fun Q hQ r => by rw [hP] at hQ; cases hQ; exact hnone r
  rw [startPeriod_playing hr hs, playingStart, hpresent]
  simp only [switchReady_of_noSwitch hno]
  rfl

theorem playoutAlert_mask (l : Line) :
    (Notice.playoutAlert l).mask = BitVec.twoPow 15 (if l = .one then 10 else 11) := by cases l <;> rfl

/-- The alert goes to the owner, and to nobody without one (R65). -/
theorem latchOwner_none {l : Line} {n : Notice} {s : State} (h : (s.line l).owner = none) : latchOwner l n s = s := by
  simp only [latchOwner, h]

theorem latchOwner_some {l : Line} {n : Notice} {s : State} {p : Port} (h : (s.line l).owner = some p) :
    latchOwner l n s = s.modPort p fun q => { q with flags := q.flags ||| n.mask } := by
  simp only [latchOwner, h, latch]

/-- The concealment of a missing frame, as the claims say it (R64). -/
theorem concealment_rest {x : LineState} {m : Nat} {period : List Sample}
    (hvoice : ∀ xs, x.chan.mode.mediaClass = .voice → x.buf.lastPlayed = some xs →
      period = xs.map fun v => v.sshiftRight m)
    (hsilent : (x.chan.mode.mediaClass = .data ∨ x.buf.lastPlayed = none) → period = List.replicate 80 0) :
    concealment x m = { rest := period, trimmed := false } := by
  unfold concealment LineState.mediaClass
  split
  next xs hc hx => rw [hvoice xs hc hx]
  next hnot =>
    have hp : period = List.replicate 80 0 := hsilent <| by
      cases hc : x.chan.mode.mediaClass with
      | data => exact .inl rfl
      | voice =>
        cases hx : x.buf.lastPlayed with
        | none => exact .inr rfl
        | some xs => exact (hnot xs hc hx).elim
    rw [hp]; rfl

/-- The concealment limit of a class (R35). -/
theorem concealmentLimit_eq {c : MediaClass} {limit : Nat} (hv : c = .voice → limit = 5) (hd : c = .data → limit = 20) :
    limit = concealmentLimit c := by
  cases c with
  | voice => exact hv rfl
  | data => exact hd rfl

/-- A drain that finds the frame at P plays it untrimmed (R66). -/
theorem drainingStart_plays {x : LineState} {P : Word} {r : FrameRecord} (hP : x.buf.playoutPoint = some P)
    (hr : Holds x.buf.slots P r) : drainingStart x = { x with buf := { x.buf with
      slots := x.buf.slots.set (slotOf P) none, playoutPoint := some (P + 1), missing := 0
      lastPlayed := some (decodePayload r.kind r.payload)
      period := { rest := decodePayload r.kind r.payload, trimmed := false } } } := by
  rw [drainingStart, presentAtPoint_some hP hr]
  obtain rfl := hr.2
  rfl

theorem drainingStart_closes {x : LineState}
    (h : ∀ P, x.buf.playoutPoint = some P → ∀ r, ¬ Holds x.buf.slots P r) :
    drainingStart x = { x with buf := x.buf.closedWith Period.silent } := by
  rw [drainingStart, presentAtPoint_none h]

/-- Settles O55: `startPeriod` by the channel's state, and the notice and the stop of detectors that go with it. -/
theorem frameStartChoosesPeriod : Obligations.FrameStartChoosesPeriod := by
  intro l s
  refine ⟨fun hrest => ?_, fun hrest => ⟨fun hc => ?_, exec_frameStart_reprime hrest, fun hr =>
    ⟨fun f fs hp hq hw hs => exec_frameStart_switch hrest hr hp hq hw hs, fun hs hno hlow => ?_,
      fun P r xs hP hholds hxs => ⟨fun h rate size F S hv hd hstart => ?_, fun hs => ?_⟩,
      fun P hP hnone hs hno m limit t hm hv hd ht => ?_, fun hs hnone => ?_⟩⟩⟩
  · exact congrArg _ (if_neg (by simpa [frameDue] using hrest))
  · have hstart : startPeriod (s.line l) = (playSilence (s.line l), false) := if_pos hc
    rw [exec_frameStart hrest, beginPeriod_quiet hstart fun h => absurd hc h]
    exact congrArg _ (modLine_congr rfl)
  · have hstart := (startPeriod_priming hr hs).trans (primingStart_stays hno)
    rw [primingCheck_silent hlow] at hstart
    rw [exec_frameStart hrest, beginPeriod_quiet hstart fun h => h]
    exact congrArg _ (modLine_congr rfl)
  · obtain ⟨rfl, rfl, rfl⟩ := classValues hv hd
    have htrims := frameStart_trims (c := (s.line l).chan.mode.mediaClass) hrest hr hP hholds hxs rfl hstart
    refine ⟨fun hband => ?_, fun hF hS => ?_, fun hF hS => ?_⟩
    · exact htrims .none (trimDecision_none hband)
    · have h := htrims .surplus (trimDecision_surplus hF hS)
      rw [trimPeriod_surplus] at h
      exact h
    · have h := htrims .deficit (trimDecision_deficit hF hS)
      rw [trimPeriod_deficit] at h
      exact h
  · have hstart := startPeriod_draining hr hs
    rw [drainingStart_plays hP hholds, decodePayload_of_decoded hxs] at hstart
    rw [exec_frameStart hrest, beginPeriod_quiet hstart fun h => h]
    exact congrArg _ (modLine_congr rfl)
  · obtain rfl := concealmentLimit_eq (c := (s.line l).mediaClass) hv hd
    have hstart := (startPeriod_passes hr hP hnone hs hno).trans (passOver_eq _ P hP)
    rw [← hm] at hstart
    subst ht
    refine ⟨fun hlt period hvoice hsilent => ?_, fun hle u hu => ?_⟩
    · rw [if_pos hlt, concealment_rest hvoice hsilent] at hstart
      rw [exec_frameStart hrest, beginPeriod_quiet hstart fun _ => nofun, State.modBuf, modLine_comp]
      exact congrArg _ (modLine_congr rfl)
    · rw [if_neg (Nat.not_lt.mpr hle)] at hstart
      rw [State.modBuf, modLine_comp] at hu
      have hbegin : beginPeriod l s = latchOwner l (.playoutAlert l) u := by
        rw [beginPeriod_alerts hstart nofun, hu]
        exact congrArg _ (modLine_congr rfl)
      rw [exec_frameStart hrest, hbegin, ← playoutAlert_mask]
      have howner : (u.line l).owner = (s.line l).owner := by rw [hu, line_modLine_same]
      exact ⟨fun ho => congrArg _ (latchOwner_none (howner.trans ho)),
        fun p ho => congrArg _ (latchOwner_some (howner.trans ho))⟩
  · have hstart := startPeriod_draining hr hs
    rw [drainingStart_closes hnone] at hstart
    have hopen : (s.line l).buf.state ≠ .closed := by rw [hs]; nofun
    rw [exec_frameStart hrest, beginPeriod_closes hstart hopen rfl]
    obtain ⟨es, hline⟩ := line_followDetectors l (s.modLine l fun _ =>
      { s.line l with buf := (s.line l).buf.closedWith Period.silent })
    refine ⟨_, rfl, ?_⟩
    rw [hline, line_modLine_same]
    exact ⟨rfl, rfl, rfl, rfl, rfl, rfl, rfl, rfl, rfl, rfl, rfl, rfl, ⟨rfl, rfl, rfl, rfl, rfl, rfl, rfl⟩,
      ((lineWork_modLine ..).trans (lineWork_followDetectors ..)).elsewhere⟩

end Sys2Proof.Machine
end

section
/-! SUPPORT. What a block holds, what the five detectors make of it, and what their findings do (R116 to R127). -/

namespace Sys2Proof.Machine

open Sys2Proof.Claim

/-! ### Tone pairs (R118) -/

theorem nearDtmf_iff (f : Nat) (t : Tone) :
    nearDtmf f t = true ↔ 980 * f ≤ 100 * t.freq ∧ 100 * t.freq ≤ 1020 * f := by
  simp only [nearDtmf, Bool.and_eq_true, decide_eq_true_eq]
  omega

/-- A tone in a frequency's window has that frequency's place, the windows before it lying below. -/
theorem findIdx_window {group : List Nat} {i : Fin group.length} {t : Tone}
    (hbelow : ∀ j : Fin group.length, j < i → 1020 * group[j] < 980 * group[i]) (h1 : 980 * group[i] ≤ 100 * t.freq)
    (h2 : 100 * t.freq ≤ 1020 * group[i]) : (group.findIdx? fun f => nearDtmf f t) = some i.val := by
  rw [List.findIdx?_eq_some_iff_getElem]
  refine ⟨i.isLt, (nearDtmf_iff _ t).mpr ⟨h1, h2⟩, fun j hj => ?_⟩
  have hlow : 1020 * group[j] < 980 * group[i] := hbelow ⟨j, by omega⟩ hj
  rw [nearDtmf_iff]
  omega

theorem rowWindows_apart : ∀ i j : Fin rowFrequencies.length, j < i →
    1020 * rowFrequencies[j] < 980 * rowFrequencies[i] := by decide

theorem columnWindows_apart : ∀ i j : Fin columnFrequencies.length, j < i →
    1020 * columnFrequencies[j] < 980 * columnFrequencies[i] := by decide

theorem findIdx_row {i : Fin 4} {t : Tone} (h1 : 980 * [697, 770, 852, 941].getD i.val 0 ≤ 100 * t.freq)
    (h2 : 100 * t.freq ≤ 1020 * [697, 770, 852, 941].getD i.val 0) :
    (rowFrequencies.findIdx? fun f => nearDtmf f t) = some i.val := by
  have hi : [697, 770, 852, 941].getD i.val 0 = rowFrequencies[i] := by fin_cases i <;> rfl
  rw [hi] at h1 h2
  exact findIdx_window (rowWindows_apart i) h1 h2

theorem findIdx_column {j : Fin 4} {t : Tone} (h1 : 980 * [1209, 1336, 1477, 1633].getD j.val 0 ≤ 100 * t.freq)
    (h2 : 100 * t.freq ≤ 1020 * [1209, 1336, 1477, 1633].getD j.val 0) :
    (columnFrequencies.findIdx? fun f => nearDtmf f t) = some j.val := by
  have hj : [1209, 1336, 1477, 1633].getD j.val 0 = columnFrequencies[j] := by fin_cases j <;> rfl
  rw [hj] at h1 h2
  exact findIdx_window (columnWindows_apart j) h1 h2

/-- Every row frequency's window lies below 960 Hz. -/
theorem findIdx_row_none {t : Tone} (h : 9600 ≤ t.freq) : (rowFrequencies.findIdx? fun f => nearDtmf f t) = none := by
  simp only [List.findIdx?_eq_none_iff, rowFrequencies, List.mem_cons, List.not_mem_nil, or_false]
  rintro f (rfl | rfl | rfl | rfl) <;> rw [← Bool.not_eq_true, nearDtmf_iff] <;> omega

/-- Every column frequency's window lies above 1184 Hz. -/
theorem findIdx_column_none {t : Tone} (h : t.freq ≤ 11840) :
    (columnFrequencies.findIdx? fun f => nearDtmf f t) = none := by
  simp only [List.findIdx?_eq_none_iff, columnFrequencies, List.mem_cons, List.not_mem_nil, or_false]
  rintro f (rfl | rfl | rfl | rfl) <;> rw [← Bool.not_eq_true, nearDtmf_iff] <;> omega

theorem digitAt_eq_keyDigit : ∀ i j : Fin 4, digitAt i.val j.val = keyDigit i j := by decide

/-- The windows of the keypad: rows from 683 to 960 Hz, columns from 1184 to 1666 Hz. -/
theorem rowWindow {i : Fin 4} {f : Nat} (h : 100 * f ≤ 1020 * [697, 770, 852, 941].getD i.val 0) : f < 9600 := by
  fin_cases i <;> simp at h <;> omega

theorem columnWindow {j : Fin 4} {f : Nat} (h1 : 980 * [1209, 1336, 1477, 1633].getD j.val 0 ≤ 100 * f)
    (h2 : 100 * f ≤ 1020 * [1209, 1336, 1477, 1633].getD j.val 0) : 11840 < f ∧ f < 16670 := by
  fin_cases j <;> simp at h1 h2 <;> omega

/-- A key's pair makes its digit present. -/
theorem dtmfBlock_key {i j : Fin 4} {b : BlockReading} (h : KeyTones i j b) : dtmfBlock b = some (keyDigit i j) := by
  obtain ⟨row, column, ht, hr1, hr2, hc1, hc2, hl1, hl2, hl3, hl4, htw1, htw2⟩ := h
  have hrow := rowWindow hr2
  have hcol := (columnWindow hc1 hc2).1
  have hrows : groupTones rowFrequencies b.tones = [(i.val, row)] := by
    simp [groupTones, ht, findIdx_row hr1 hr2, findIdx_row_none (t := column) (by omega)]
  have hcols : groupTones columnFrequencies b.tones = [(j.val, column)] := by
    simp [groupTones, ht, findIdx_column hc1 hc2, findIdx_column_none (t := row) (by omega)]
  have hlevels : (dtmfLevel row && dtmfLevel column && decide (-80 ≤ column.level - row.level)
      && decide (column.level - row.level ≤ 40)) = true := by
    simp only [dtmfLevel, Bool.and_eq_true, decide_eq_true_eq]
    omega
  simp only [dtmfBlock, hrows, hcols, hlevels, if_true, digitAt_eq_keyDigit]

/-- Tones above the row group make no pair. -/
theorem dtmfBlock_none {b : BlockReading} (h : ∀ t ∈ b.tones, 9600 ≤ t.freq) : dtmfBlock b = none := by
  have hrows : groupTones rowFrequencies b.tones = [] := by
    rw [groupTones, List.filterMap_eq_nil_iff]
    intro t ht
    rw [findIdx_row_none (h t ht)]
    rfl
  simp only [dtmfBlock, hrows]

/-! ### Fax tones (R122, R123) -/

theorem nearTone_iff (f w : Nat) (t : Tone) :
    nearTone f w t = true ↔ 10 * (f - w) ≤ t.freq ∧ t.freq ≤ 10 * (f + w) := by simp [nearTone]

theorem faxLevel_iff (t : Tone) : faxLevel t = true ↔ -430 ≤ t.level ∧ t.level ≤ 0 := by simp [faxLevel]

theorem disturbs_iff (t o : Tone) : disturbs t o = true ↔
    3000 ≤ o.freq ∧ o.freq ≤ 34000 ∧ t.level - 100 ≤ o.level ∧ o.level ≤ t.level + 100 := by
  simp only [disturbs, Bool.and_eq_true, decide_eq_true_eq]
  omega

theorem cngBlock_false {b : BlockReading} (h : ∀ t ∈ b.tones, t.freq < 10620 ∨ 11380 < t.freq) : cngBlock b = false := by
  rw [← Bool.not_eq_true, cngBlock_iff]
  rintro ⟨i, t, ht, hcng⟩
  obtain ⟨hnear, -, -⟩ := (cngTone_iff ..).mp hcng
  have hout := h t (List.mem_of_getElem? ht)
  rw [nearTone_iff] at hnear
  omega

theorem answerBlock_false {b : BlockReading} (h : ∀ t ∈ b.tones, t.freq < 20790) : answerBlock b = false := by
  rw [← Bool.not_eq_true, answerBlock_iff]
  rintro ⟨t, ht, hnear, -⟩
  have hout := h t ht
  rw [nearTone_iff] at hnear
  omega

theorem cngBlock_alone {b : BlockReading} {t : Tone} (hb : b.tones = [t]) (h1 : 10620 ≤ t.freq) (h2 : t.freq ≤ 11380)
    (h3 : -430 ≤ t.level) (h4 : t.level ≤ 0) : cngBlock b = true := by
  refine (cngBlock_iff b).mpr ⟨0, t, by rw [hb]; rfl, (cngTone_iff ..).mpr ⟨?_, (faxLevel_iff t).mpr ⟨h3, h4⟩, ?_⟩⟩
  · rw [nearTone_iff]; omega
  · rw [hb]; nofun

theorem answerBlock_alone {b : BlockReading} {t : Tone} (hb : b.tones = [t]) (h1 : 20790 ≤ t.freq)
    (h2 : t.freq ≤ 21210) (h3 : -430 ≤ t.level) (h4 : t.level ≤ 0) : answerBlock b = true := by
  refine (answerBlock_iff b).mpr ⟨t, by simp [hb], ?_, (faxLevel_iff t).mpr ⟨h3, h4⟩⟩
  rw [nearTone_iff]; omega

/-- Beside another tone outside its own window the calling tone is heard where the other does not disturb it. -/
theorem cngBlock_pair {t o : Tone} {step : Nat} (h1 : 10620 ≤ t.freq) (h2 : t.freq ≤ 11380) (h3 : -430 ≤ t.level)
    (h4 : t.level ≤ 0) (ho : o.freq < 10620 ∨ 11380 < o.freq) :
    cngBlock { tones := [t, o], phaseStep := step } = true ↔ ¬ (disturbs t o = true) := by
  rw [cngBlock_iff]
  constructor
  · rintro ⟨i, x, hx, hcng⟩
    obtain ⟨hnear, -, hquiet⟩ := (cngTone_iff ..).mp hcng
    rw [nearTone_iff] at hnear
    match i, hx with
    | 0, hx =>
      obtain rfl : t = x := by simpa using hx
      simpa using hquiet o (by simp)
    | 1, hx =>
      obtain rfl : o = x := by simpa using hx
      omega
  · intro hquiet
    refine ⟨0, t, rfl, (cngTone_iff ..).mpr ⟨?_, (faxLevel_iff t).mpr ⟨h3, h4⟩, ?_⟩⟩
    · rw [nearTone_iff]; omega
    · simpa using hquiet

/-! ### One detector at work, the others at rest -/

/-- Side `k` holds a block that a test answers with `p`, the other side one that it does not find present. -/
def HeardOn (present : BlockReading → Bool) (k : Side) (p : Bool) (a b : BlockReading) : Prop :=
  match k with
  | .line => present a = p ∧ present b = false
  | .network => present b = p ∧ present a = false

theorem heardOn_of_oneSide {present : BlockReading → Bool} {k : Side} {p : Bool} {ts : List Tone} {a b : BlockReading}
    (h : OneSide k ts a b) (hp : ∀ r : BlockReading, r.tones = ts → present r = p)
    (hn : ∀ r : BlockReading, r.tones = [] → present r = false) : HeardOn present k p a b := by
  cases k <;> exact ⟨hp _ h.1, hn _ h.2⟩

/-- What holds of the one tone holds of every tone of either side. -/
theorem oneSide_tones {k : Side} {t : Tone} {a b : BlockReading} (h : OneSide k [t] a b) {P : Tone → Prop} (hP : P t) :
    (∀ x ∈ a.tones, P x) ∧ ∀ x ∈ b.tones, P x := by
  cases k <;> obtain ⟨h1, h2⟩ := h <;> simp [h1, h2, hP]

/-- A detector at rest that hears nothing stays at rest. -/
theorem dtmfJudge_rests (now : Word) : dtmfJudge now none .idle = (.idle, []) := rfl

theorem cngJudge_rests (k : Side) : cngJudge k false .idle = (.idle, []) := rfl

theorem answerJudge_rests (k : Side) (now : Word) (step : Bool) : answerJudge k now false step .idle = (.idle, []) := rfl

/-- A detector that runs on whole blocks judges each. -/
theorem judgeWhole_runs {α : Type} (st : α) (judge : α → α × List Finding) :
    judgeWhole ⟨true, false⟩ st judge = (⟨true, false⟩, judge st) := rfl

theorem judgeBlock_dtmfAlone {now : Word} {d : Detectors} {a b : BlockReading} {st : DtmfState} (hrun : AllRun d)
    (h : DtmfAlone st d) (hca : cngBlock a = false) (hcb : cngBlock b = false) (haa : answerBlock a = false)
    (hab : answerBlock b = false) : judgeBlock now d a b =
      ({ d with dtmf := (dtmfJudge now (dtmfBlock a) st).1 }, (dtmfJudge now (dtmfBlock a) st).2) := by
  obtain ⟨r1, r2, r3, r4, r5⟩ := hrun
  obtain ⟨rfl, h2, h3, h4, h5⟩ := h
  simp only [judgeBlock, r1, r2, r3, r4, r5, judgeWhole_runs, h2, h3, h4, h5, hca, hcb, haa, hab, cngJudge_rests,
    answerJudge_rests, List.append_nil]

theorem judgeBlock_cngAlone {now : Word} {d : Detectors} {a b : BlockReading} {k : Side} {st : CngState} {p : Bool}
    (hrun : AllRun d) (h : CngAlone k st d) (hd : dtmfBlock a = none) (hp : HeardOn cngBlock k p a b)
    (haa : answerBlock a = false) (hab : answerBlock b = false) : judgeBlock now d a b =
      (withCng k (cngJudge k p st).1 d, (cngJudge k p st).2) := by
  obtain ⟨r1, r2, r3, r4, r5⟩ := hrun
  obtain ⟨h1, h4, h5, hk⟩ := h
  cases k <;> obtain ⟨rfl, h3⟩ := hk <;> obtain ⟨rfl, hother⟩ := hp <;>
    simp only [judgeBlock, r1, r2, r3, r4, r5, judgeWhole_runs, h1, h3, h4, h5, hd, hother, haa, hab, dtmfJudge_rests,
      cngJudge_rests, answerJudge_rests, withCng, List.append_nil, List.nil_append]

theorem judgeBlock_ansAlone {now : Word} {d : Detectors} {a b : BlockReading} {k : Side} {st : AnswerState} {p : Bool}
    (hrun : AllRun d) (h : AnsAlone k st d) (hd : dtmfBlock a = none) (hca : cngBlock a = false)
    (hcb : cngBlock b = false) (hp : HeardOn answerBlock k p a b) : judgeBlock now d a b =
      (withAns k (answerJudge k now p (decide (150 ≤ stepOf k a b) && decide (stepOf k a b ≤ 210)) st).1 d,
        (answerJudge k now p (decide (150 ≤ stepOf k a b) && decide (stepOf k a b ≤ 210)) st).2) := by
  obtain ⟨r1, r2, r3, r4, r5⟩ := hrun
  obtain ⟨h1, h2, h3, hk⟩ := h
  cases k <;> obtain ⟨rfl, h5⟩ := hk <;> obtain ⟨rfl, hother⟩ := hp <;>
    simp only [judgeBlock, r1, r2, r3, r4, r5, judgeWhole_runs, h1, h2, h3, h5, hd, hca, hcb, hother, dtmfJudge_rests,
      cngJudge_rests, answerJudge_rests, withAns, reversalStep, stepOf, List.append_nil, List.nil_append] <;>
    rfl

/-! ### What a trigger changes (R45) -/

/-- A line whose channel a trigger has acted on. -/
def upsped (t : UpspeedTrigger) (x : LineState) : LineState :=
  if upspeedApplies x t then
    if x.chan.agreement = .presumed then { x with chan := modeChanged .d8 (dataRequested x.chan) }
    else restarted { x with chan := dataRequested x.chan }
  else x

theorem line_upspeed (l : Line) (t : UpspeedTrigger) (s : State) : (upspeed l t s).line l = upsped t (s.line l) := by
  unfold upsped
  split
  next h =>
    split
    next ha => rw [upspeed_presumed h ha, line_changeMode, line_modChan_same]
    next ha => rw [upspeed_restarts h ha, line_restartAgreement, line_modChan_same]
  next h => rw [upspeed_no (Bool.not_eq_true _ ▸ h)]

/-- A trigger changes the channel and the counters alone. -/
theorem upsped_kept (t : UpspeedTrigger) (x : LineState) : ∃ c k, upsped t x = { x with chan := c, ctr := k } := by
  unfold upsped
  split
  · split
    · exact ⟨_, _, rfl⟩
    · exact ⟨_, _, rfl⟩
  · exact ⟨_, _, rfl⟩

theorem upspeedApplies_iff (x : LineState) (t : UpspeedTrigger) : upspeedApplies x t = true ↔
    inTriggerSet x.chan.params t = true ∧ x.buf.state.isOpen = true ∧ x.chan.mode.mediaClass = .voice
      ∧ (x.chan.requestedClass = .voice ∨ x.chan.agreement = .presumed) := by
  simp [upspeedApplies, and_assoc]

theorem triggered_upsped (t : UpspeedTrigger) (x : LineState) :
    Triggered (inTriggerSet x.chan.params t) x (upsped t x) := by
  refine ⟨fun hno => ?_, fun hset hopen hvoice => ⟨fun ha hr => ?_, fun ha => ?_⟩⟩
  · have h : ¬ upspeedApplies x t = true := by
      rw [upspeedApplies_iff]
      rintro ⟨h1, h2, h3, h4⟩
      obtain h | h | h | ⟨h, hp⟩ := hno
      · rw [h] at h1; cases h1
      · rw [h] at h2; cases h2
      · rw [h] at h3; cases h3
      · rw [h] at h4; exact h4.elim nofun hp
    rw [upsped, if_neg h]
    exact ⟨rfl, rfl⟩
  · have h := (upspeedApplies_iff x t).mpr ⟨hset, hopen, hvoice, .inl hr⟩
    rw [upsped, if_pos h, if_neg ha]
    have htimer : (if x.buf.state.isOpen then some x.ms else none) = some x.ms := if_pos hopen
    refine ⟨?_, rfl⟩
    dsimp only [restarted]
    rw [htimer]
    rfl
  · have h := (upspeedApplies_iff x t).mpr ⟨hset, hopen, hvoice, .inr ha⟩
    have hreprime : (dataRequested x.chan).mode.mediaClass = .voice := hvoice
    rw [upsped, if_pos h, if_pos ha, modeChanged, hreprime]
    exact ⟨by simp [dataRequested, Mode.mediaClass], rfl⟩

theorem changeMode_told {l : Line} {m : Mode} {s : State} {p : Port} (h : (s.line l).chan.mode ≠ m)
    (ho : (s.line l).owner = some p) : isLatched ((changeMode l m s).port p).flags (.agreementChanged l) = true := by
  rw [changeMode, if_neg h]
  simp only [latchOwner, line_modChan_same, ho, isLatched_latch]

/-- A trigger that changes the channel outside ADVERTISE tells the owner. -/
theorem upspeed_told {l : Line} {t : UpspeedTrigger} {s : State} {p : Port} (h : upspeedApplies (s.line l) t = true)
    (ha : (s.line l).chan.agreement ≠ .advertise) (ho : (s.line l).owner = some p) :
    isLatched ((upspeed l t s).port p).flags (.agreementChanged l) = true := by
  obtain ⟨-, -, hvoice, -⟩ := (upspeedApplies_iff _ t).mp h
  by_cases hp : (s.line l).chan.agreement = .presumed
  · rw [upspeed_presumed h hp]
    refine changeMode_told ?_ (by rw [line_modChan_same]; exact ho)
    rw [line_modChan_same]
    intro hm
    rw [show (s.line l).chan.mode = .d8 from hm] at hvoice
    cases hvoice
  · rw [upspeed_restarts h hp]
    exact restartAgreement_told (by rw [line_modChan_same]; exact ha) (by rw [line_modChan_same]; exact ho)

/-! ### What a judged block leaves (R116, R127) -/

/-- The state whose detectors have judged and not yet told what they found. -/
def detected (l : Line) (d : Detectors) (s : State) : State := s.modLine l fun x => { x with det := d, blockDue := false }

theorem line_detected (l : Line) (d : Detectors) (s : State) :
    (detected l d s).line l = { s.line l with det := d, blockDue := false } := line_modLine_same ..

theorem lineWork_detected (l : Line) (d : Detectors) (s : State) : LineWork l s (detected l d s) := lineWork_modLine ..

theorem judgeReadings_eq {l : Line} {a b : BlockReading} {s : State} {d : Detectors} {fs : List Finding}
    (h : judgeBlock (s.line l).ms (s.line l).det a b = (d, fs)) :
    judgeReadings l a b s = applyFindings l fs (detected l d s) := by
  simp only [judgeReadings, h]
  rfl

theorem lineWork_judgeReadings (l : Line) (a b : BlockReading) (s : State) : LineWork l s (judgeReadings l a b s) :=
  (lineWork_detected ..).trans (lineWork_applyFindings ..)

/-- Findings that hand over no trigger leave the call alone. -/
theorem noTrigger_judgeReadings {l : Line} {a b : BlockReading} {s : State} {d : Detectors} {fs : List Finding}
    (h : judgeBlock (s.line l).ms (s.line l).det a b = (d, fs)) (ht : ∀ f ∈ fs, f.trigger = none) :
    NoTrigger (s.line l) ((judgeReadings l a b s).line l) := by
  obtain ⟨es, hes⟩ := line_applyFindings l fs ht (detected l d s)
  rw [judgeReadings_eq h, hes, line_detected]
  exact ⟨rfl, rfl⟩

theorem judged_none {l : Line} {a b : BlockReading} {s : State} {d : Detectors}
    (h : judgeBlock (s.line l).ms (s.line l).det a b = (d, [])) : Judged l d none s (judgeReadings l a b s) := by
  have hwork := lineWork_judgeReadings l a b s
  have hline : (judgeReadings l a b s).line l = { s.line l with det := d, blockDue := false } := by
    rw [judgeReadings_eq h]
    exact line_detected ..
  unfold Judged
  rw [hline]
  exact ⟨rfl, rfl, rfl, nofun, rfl, rfl, rfl, rfl, rfl, rfl, rfl, rfl, hwork.elsewhere, hwork.ports⟩

/-- The trigger of a finding, where it has one. -/
def triggeredBy (l : Line) (f : Finding) (s : State) : State :=
  match f.trigger with
  | some t => upspeed l t s
  | none => s

theorem applyFinding_eq (l : Line) (f : Finding) (s : State) :
    applyFinding l s f = storePlain l f.kind f.value f.duration (triggeredBy l f s) := rfl

theorem judgeReadings_finding {l : Line} {a b : BlockReading} {s : State} {d : Detectors} {f : Finding}
    (h : judgeBlock (s.line l).ms (s.line l).det a b = (d, [f])) :
    judgeReadings l a b s = storePlain l f.kind f.value f.duration (triggeredBy l f (detected l d s)) :=
  (judgeReadings_eq h).trans (applyFinding_eq ..)

theorem triggeredBy_some {l : Line} {f : Finding} {t : UpspeedTrigger} (h : f.trigger = some t) (s : State) :
    triggeredBy l f s = upspeed l t s := by simp only [triggeredBy, h]

theorem line_triggeredBy (l : Line) (f : Finding) (s : State) :
    ∃ c k, (triggeredBy l f s).line l = { s.line l with chan := c, ctr := k } := by
  unfold triggeredBy
  split
  · rw [line_upspeed]; exact upsped_kept ..
  · exact ⟨_, _, rfl⟩

/-- A block with one finding stores its event. -/
theorem judged_finding {l : Line} {a b : BlockReading} {s : State} {d : Detectors} {f : Finding}
    (h : judgeBlock (s.line l).ms (s.line l).det a b = (d, [f])) :
    Judged l d (some (eventNow (s.line l) f.kind f.value (durationOf f.duration) false false)) s
      (judgeReadings l a b s) := by
  have hwork := lineWork_judgeReadings l a b s
  obtain ⟨c, k, hkept⟩ := line_triggeredBy l f (detected l d s)
  rw [line_detected] at hkept
  have hnoticed : Noticed l s (judgeReadings l a b s) := by
    rw [judgeReadings_finding h]
    exact (noticed_storePlain ..).mono (by rw [hkept]) fun _ _ h => h
  have hline : (judgeReadings l a b s).line l = { s.line l with
      det := d, blockDue := false, chan := c, ctr := k
      events := recorded (s.line l).events
        (eventNow (s.line l) f.kind f.value (durationOf f.duration) false false) } := by
    rw [judgeReadings_finding h, line_storePlain_same, hkept]
    rfl
  unfold Judged
  rw [hline]
  exact ⟨rfl, rfl, rfl, fun _ => hnoticed, rfl, rfl, rfl, rfl, rfl, rfl, rfl, rfl, hwork.elsewhere, hwork.ports⟩

/-- A finding with a trigger acts on the call first. -/
theorem triggered_judgeReadings {l : Line} {a b : BlockReading} {s : State} {d : Detectors} {f : Finding}
    {t : UpspeedTrigger} (h : judgeBlock (s.line l).ms (s.line l).det a b = (d, [f])) (ht : f.trigger = some t) :
    Triggered (inTriggerSet (s.line l).chan.params t) (s.line l) ((judgeReadings l a b s).line l) := by
  rw [judgeReadings_finding h, line_storePlain_same, triggeredBy_some ht, line_upspeed, line_detected]
  exact triggered_upsped t { s.line l with det := d, blockDue := false }

/-- A finding whose trigger changes the channel outside ADVERTISE tells the owner. -/
theorem judgeReadings_told {l : Line} {a b : BlockReading} {s : State} {d : Detectors} {f : Finding}
    {t : UpspeedTrigger} (h : judgeBlock (s.line l).ms (s.line l).det a b = (d, [f])) (ht : f.trigger = some t)
    (hchan : ((judgeReadings l a b s).line l).chan ≠ (s.line l).chan) (ha : (s.line l).chan.agreement ≠ .advertise)
    {p : Port} (ho : (s.line l).owner = some p) :
    isLatched ((judgeReadings l a b s).port p).flags (.agreementChanged l) = true := by
  rw [judgeReadings_finding h, triggeredBy_some ht] at hchan ⊢
  rw [line_storePlain_same, line_upspeed, line_detected] at hchan
  have happlies : upspeedApplies { s.line l with det := d, blockDue := false } t = true := by
    by_contra hno
    rw [upsped, if_neg hno] at hchan
    exact hchan rfl
  refine (lineWork_storePlain ..).stays _ _ (upspeed_told ?_ ?_ ?_)
  · rw [line_detected]; exact happlies
  · rw [line_detected]; exact ha
  · rw [line_detected]; exact ho

end Sys2Proof.Machine
end

section
/-! SUPPORT. Settled: each detector block is judged by what the two sides hold (R116 to R127). -/

namespace Sys2Proof.Machine

open Sys2Proof.Claim

/-! ### The DTMF detector's judgements (R119 to R121) -/

/-- A pair that is not the candidate's own begins the next candidate. -/
theorem dtmfJudge_begins {now : Word} {q : Fin 16} {st : DtmfState}
    (h : st = .idle ∨ ∃ d k, d ≠ q ∧ st = .qualifying d k) : dtmfJudge now (some q) st = (.qualifying q 1, []) := by
  obtain rfl | ⟨d, k, hd, rfl⟩ := h
  · rfl
  · simp only [dtmfJudge, if_neg hd.symm]; rfl

theorem candidate_counts {q : Fin 16} {n : Nat} {now : Word} (h : n < 8) : candidate q n now = .qualifying q n :=
  if_neg (Nat.not_le.mpr h)

theorem candidate_qualifies (q : Fin 16) (now : Word) : candidate q 8 now = .active q (now - 40) 8 8 0 none := rfl

theorem dtmfJudge_counts (now : Word) (q : Fin 16) (k : Nat) :
    dtmfJudge now (some q) (.qualifying q k) = (candidate q (k + 1) now, []) := by simp only [dtmfJudge, if_true]

theorem dtmfJudge_holds (now : Word) (q : Fin 16) (f : Word) (age last absence : Nat) (next : Option (Fin 16 × Nat)) :
    dtmfJudge now (some q) (.active q f age last absence next) = (.active q f (age + 1) (age + 1) 0 none, []) := by
  simp only [dtmfJudge, if_true]

/-- The count of a next candidate whose pair is present. -/
def nextCount (q : Fin 16) (next : Option (Fin 16 × Nat)) : Nat :=
  match next with
  | some (d, c) => if d = q then c + 1 else 1
  | none => 1

theorem nextCandidate_present (q : Fin 16) (next : Option (Fin 16 × Nat)) :
    nextCandidate (some q) next = some (q, nextCount q next) := by
  match next with
  | none => rfl
  | some (d, c) =>
    by_cases h : q = d
    · simp [nextCandidate, nextCount, h]
    · simp [nextCandidate, nextCount, h, Ne.symm h]

/-- A block without the digit's own pair, before the eighth such block. -/
theorem dtmfJudge_misses {now : Word} {block : Option (Fin 16)} {d : Fin 16} {f : Word} {age last absence : Nat}
    {next : Option (Fin 16 × Nat)} (hd : block ≠ some d) (h : absence < 7) :
    dtmfJudge now block (.active d f age last absence next)
      = (.active d f (age + 1) last (absence + 1) (nextCandidate block next), []) := by
  have hlt : absence + 1 < Config.dtmfBlocks := by show absence + 1 < 8; omega
  simp only [dtmfJudge, if_neg hd, if_pos hlt]

/-- The eighth block without the digit's own pair ends the digit. -/
theorem dtmfJudge_ends {now : Word} {block : Option (Fin 16)} {d : Fin 16} {f : Word} {age last : Nat}
    {next : Option (Fin 16 × Nat)} (hd : block ≠ some d) :
    dtmfJudge now block (.active d f age last 7 next)
      = (match nextCandidate block next with
          | some (q, n) => candidate q n now
          | none => .idle, [digitFinding d last]) := by
  simp only [dtmfJudge, if_neg hd]
  rfl

theorem dtmfJudge_trigger (now : Word) (block : Option (Fin 16)) (st : DtmfState) :
    ∀ f ∈ (dtmfJudge now block st).2, f.trigger = none := by
  intro f hf
  cases st with
  | idle => cases block <;> cases hf
  | qualifying d n => cases block <;> cases hf
  | active d first age last absence next =>
    simp only [dtmfJudge] at hf
    split at hf
    · cases hf
    · split at hf
      · cases hf
      · obtain rfl := List.mem_singleton.mp hf
        rfl

/-! ### The fax-tone detectors' judgements (R122 to R125) -/

theorem sideByte_eq (k : Side) : sideByte k = sideNumber k := by cases k <;> rfl

theorem cngJudge_counts {k : Side} {c : Nat} (h : c < 99) :
    cngJudge k true (.qualifying c) = (.qualifying (c + 1), []) := by
  have hlt : c + 1 < Config.cngBlocks := by show c + 1 < 100; omega
  simp only [cngJudge, if_true, if_pos hlt]

theorem cngJudge_absence {k : Side} {c : Nat} (h : c < 9) : cngJudge k false (.present c) = (.present (c + 1), []) := by
  have hlt : c + 1 < Config.toneEndBlocks := by show c + 1 < 10; omega
  simp only [cngJudge, Bool.false_eq_true, if_false, if_pos hlt]

/-- Absent blocks find nothing for a CNG detector: its end leaves no event. -/
theorem cngJudge_absent_silent (k : Side) (st : CngState) : (cngJudge k false st).2 = [] := by
  cases st with
  | idle => rfl
  | qualifying n => rfl
  | present absence => simp only [cngJudge, Bool.false_eq_true, if_false]; split <;> rfl

theorem answerJudge_counts {k : Side} {now f : Word} {step : Bool} {c : Nat} (h : c < 79) :
    answerJudge k now true step (.qualifying f c) = (.qualifying f (c + 1), []) := by
  have hlt : c + 1 < Config.answerBlocks := by show c + 1 < 80; omega
  simp only [answerJudge, if_true, if_pos hlt]

theorem answerJudge_absence {k : Side} {now f : Word} {step : Bool} {age last absence : Nat} {reversal : Option Nat}
    (h : absence < 9) : answerJudge k now false step (.present f age last absence reversal)
      = (.present f (age + 1) last (absence + 1) reversal, []) := by
  have hlt : absence + 1 < Config.toneEndBlocks := by show absence + 1 < 10; omega
  simp only [answerJudge, Bool.false_eq_true, if_false, if_pos hlt]

theorem answerJudge_absent_trigger (k : Side) (now : Word) (step : Bool) (st : AnswerState) :
    ∀ f ∈ (answerJudge k now false step st).2, f.trigger = none := by
  intro f hf
  cases st with
  | idle => cases hf
  | qualifying first n => cases hf
  | present first age last absence reversal =>
    simp only [answerJudge, Bool.false_eq_true, if_false] at hf
    split at hf
    · cases hf
    · obtain rfl := List.mem_singleton.mp hf
      rfl

theorem reportsReversal_iff (age : Nat) (reversal : Option Nat) :
    reportsReversal age reversal = true ↔ ∀ c, reversal = some c → 20 < age - c := by
  cases reversal with
  | none => simp [reportsReversal]
  | some k => exact decide_eq_true_iff.trans (by simp only [Config.reversalBlocks, Option.some.injEq, forall_eq'])

/-- A present block reports a reversal or not (R124). -/
theorem answerJudge_present (k : Side) (now f : Word) (step : Bool) (age last absence : Nat) (reversal : Option Nat) :
    answerJudge k now true step (.present f age last absence reversal) =
      if step && absence == 0 && reportsReversal (age + 1) reversal then
        (.present f (age + 1) (age + 1) 0 (some (age + 1)), [reversalFinding k])
      else (.present f (age + 1) (age + 1) 0 reversal, []) := by simp only [answerJudge, if_true]

/-! ### What the sides hold -/

/-- A side without tones holds nothing for any detector. -/
theorem blocks_of_silence {r : BlockReading} (h : r.tones = []) :
    dtmfBlock r = none ∧ cngBlock r = false ∧ answerBlock r = false := by
  refine ⟨dtmfBlock_none ?_, cngBlock_false ?_, answerBlock_false ?_⟩ <;> rw [h] <;> nofun

/-- A key's pair is no fax tone. -/
theorem key_noFaxTone {i j : Fin 4} {r : BlockReading} (h : KeyTones i j r) :
    cngBlock r = false ∧ answerBlock r = false := by
  obtain ⟨row, column, ht, -, hr2, hc1, hc2, -⟩ := h
  have hrow := rowWindow hr2
  obtain ⟨hcol1, hcol2⟩ := columnWindow hc1 hc2
  refine ⟨cngBlock_false ?_, answerBlock_false ?_⟩ <;> rw [ht] <;> simp <;> omega

/-! ### One detector's block, judged -/

theorem judgeBlock_key {now : Word} {d : Detectors} {a b : BlockReading} {st : DtmfState} {i j : Fin 4} (hrun : AllRun d)
    (h : DtmfAlone st d) (hkey : KeyTones i j a) (hb : b.tones = []) : judgeBlock now d a b =
      ({ d with dtmf := (dtmfJudge now (some (keyDigit i j)) st).1 }, (dtmfJudge now (some (keyDigit i j)) st).2) := by
  obtain ⟨hcng, hanswer⟩ := key_noFaxTone hkey
  obtain ⟨-, hcb, hab⟩ := blocks_of_silence hb
  rw [← dtmfBlock_key hkey]
  exact judgeBlock_dtmfAlone hrun h hcng hcb hanswer hab

theorem judgeBlock_noKey {now : Word} {d : Detectors} {a b : BlockReading} {st : DtmfState} (hrun : AllRun d)
    (h : DtmfAlone st d) (ha : a.tones = []) (hb : b.tones = []) :
    judgeBlock now d a b = ({ d with dtmf := (dtmfJudge now none st).1 }, (dtmfJudge now none st).2) := by
  obtain ⟨hda, hca, haa⟩ := blocks_of_silence ha
  obtain ⟨-, hcb, hab⟩ := blocks_of_silence hb
  rw [← hda]
  exact judgeBlock_dtmfAlone hrun h hca hcb haa hab

theorem judgeBlock_callingTone {now : Word} {d : Detectors} {a b : BlockReading} {k : Side} {t : Tone} {st : CngState}
    (hrun : AllRun d) (h : CngAlone k st d) (hside : OneSide k [t] a b) (h1 : 10620 ≤ t.freq) (h2 : t.freq ≤ 11380)
    (h3 : -430 ≤ t.level) (h4 : t.level ≤ 0) :
    judgeBlock now d a b = (withCng k (cngJudge k true st).1 d, (cngJudge k true st).2) := by
  obtain ⟨ha, hb⟩ := oneSide_tones hside (P := fun x => 9600 ≤ x.freq ∧ x.freq < 20790) (by omega)
  exact judgeBlock_cngAlone hrun h (dtmfBlock_none fun x hx => (ha x hx).1)
    (heardOn_of_oneSide hside (fun _ hr => cngBlock_alone hr h1 h2 h3 h4) fun _ hr => (blocks_of_silence hr).2.1)
    (answerBlock_false fun x hx => (ha x hx).2) (answerBlock_false fun x hx => (hb x hx).2)

theorem judgeBlock_noCallingTone {now : Word} {d : Detectors} {a b : BlockReading} {k : Side} {st : CngState}
    (hrun : AllRun d) (h : CngAlone k st d) (ha : a.tones = []) (hb : b.tones = []) :
    judgeBlock now d a b = (withCng k (cngJudge k false st).1 d, (cngJudge k false st).2) := by
  obtain ⟨hda, hca, haa⟩ := blocks_of_silence ha
  obtain ⟨-, hcb, hab⟩ := blocks_of_silence hb
  have hheard : HeardOn cngBlock k false a b := by
    cases k
    · exact ⟨hca, hcb⟩
    · exact ⟨hcb, hca⟩
  exact judgeBlock_cngAlone hrun h hda hheard haa hab

theorem judgeBlock_answerTone {now : Word} {d : Detectors} {a b : BlockReading} {k : Side} {t : Tone} {st : AnswerState}
    (hrun : AllRun d) (h : AnsAlone k st d) (hside : OneSide k [t] a b) (h1 : 20790 ≤ t.freq) (h2 : t.freq ≤ 21210)
    (h3 : -430 ≤ t.level) (h4 : t.level ≤ 0) : judgeBlock now d a b =
      (withAns k (answerJudge k now true (decide (150 ≤ stepOf k a b) && decide (stepOf k a b ≤ 210)) st).1 d,
        (answerJudge k now true (decide (150 ≤ stepOf k a b) && decide (stepOf k a b ≤ 210)) st).2) := by
  obtain ⟨ha, hb⟩ := oneSide_tones hside (P := fun x => 11380 < x.freq) (by omega)
  exact judgeBlock_ansAlone hrun h (dtmfBlock_none fun x hx => by have := ha x hx; omega)
    (cngBlock_false fun x hx => .inr (ha x hx)) (cngBlock_false fun x hx => .inr (hb x hx))
    (heardOn_of_oneSide hside (fun _ hr => answerBlock_alone hr h1 h2 h3 h4) fun _ hr => (blocks_of_silence hr).2.2)

theorem judgeBlock_noAnswerTone {now : Word} {d : Detectors} {a b : BlockReading} {k : Side} {st : AnswerState}
    (hrun : AllRun d) (h : AnsAlone k st d) (ha : a.tones = []) (hb : b.tones = []) : judgeBlock now d a b =
      (withAns k (answerJudge k now false (decide (150 ≤ stepOf k a b) && decide (stepOf k a b ≤ 210)) st).1 d,
        (answerJudge k now false (decide (150 ≤ stepOf k a b) && decide (stepOf k a b ≤ 210)) st).2) := by
  obtain ⟨hda, hca, haa⟩ := blocks_of_silence ha
  obtain ⟨-, hcb, hab⟩ := blocks_of_silence hb
  have hheard : HeardOn answerBlock k false a b := by
    cases k
    · exact ⟨haa, hab⟩
    · exact ⟨hab, haa⟩
  exact judgeBlock_ansAlone hrun h hda hca hcb hheard

/-- Settles O59: the block's reading decides what each detector hears, the one not IDLE judges it, and its finding acts. -/
theorem detectorBlocksJudged : Obligations.DetectorBlocksJudged := by
  intro l n m s
  refine ⟨fun h => ?_, fun h => ?_, heardReading_zero n, fun t o step h1 h2 h3 h4 ho => ?_, fun a b u hu hrun =>
    ⟨fun i j q st hq hkey hb halone => ?_, fun st ha hb halone => ?_, fun k t st hside h1 h2 h3 h4 halone => ?_,
      fun k st ha hb halone => ?_, fun k t st hside h1 h2 h3 h4 halone => ?_, fun k st ha hb halone => ?_⟩⟩
  · exact congrArg _ (if_neg (by rw [h]; nofun))
  · exact congrArg _ (if_pos h)
  · rw [cngBlock_pair h1 h2 h3 h4 ho, disturbs_iff]
  · subst hu
    have hjudge := judgeBlock_key (now := (s.line l).ms) hrun halone hkey hb
    rw [← hq] at hjudge
    refine ⟨noTrigger_judgeReadings hjudge (dtmfJudge_trigger _ _ _), fun h => ?_, ?_, ?_, ?_, ?_⟩
    · rw [dtmfJudge_begins h] at hjudge
      exact judged_none hjudge
    · rintro k rfl hk
      rw [dtmfJudge_counts, candidate_counts (by omega)] at hjudge
      exact judged_none hjudge
    · rintro rfl
      rw [dtmfJudge_counts, candidate_qualifies] at hjudge
      exact judged_none hjudge
    · rintro f age last absence next rfl
      rw [dtmfJudge_holds] at hjudge
      exact judged_none hjudge
    · rintro d f age last absence next k hd rfl hk
      have hother : some q ≠ some d := fun h => hd (Option.some.inj h).symm
      obtain rfl : k = nextCount q next := hk
      refine ⟨fun habs => ?_, ?_, ?_⟩
      · rw [dtmfJudge_misses hother habs, nextCandidate_present] at hjudge
        exact judged_none hjudge
      · rintro rfl hk
        rw [dtmfJudge_ends hother, nextCandidate_present] at hjudge
        simp only [candidate_counts hk] at hjudge
        exact judged_finding hjudge
      · rintro rfl hk
        rw [dtmfJudge_ends hother, nextCandidate_present] at hjudge
        simp only [hk, candidate_qualifies] at hjudge
        exact judged_finding hjudge
  · subst hu
    have hjudge := judgeBlock_noKey (now := (s.line l).ms) hrun halone ha hb
    refine ⟨noTrigger_judgeReadings hjudge (dtmfJudge_trigger _ _ _), ?_, ?_⟩
    · rintro (rfl | ⟨d, k, rfl⟩) <;> exact judged_none hjudge
    · rintro d f age last absence next rfl
      have hother : (none : Option (Fin 16)) ≠ some d := nofun
      refine ⟨fun habs => ?_, ?_⟩
      · rw [dtmfJudge_misses hother habs] at hjudge
        exact judged_none hjudge
      · rintro rfl
        rw [dtmfJudge_ends hother] at hjudge
        exact judged_finding hjudge
  · subst hu
    have hjudge := judgeBlock_callingTone (now := (s.line l).ms) hrun halone hside h1 h2 h3 h4
    refine ⟨?_, ?_, ?_, ?_⟩
    · rintro rfl
      exact ⟨judged_none hjudge, noTrigger_judgeReadings hjudge nofun⟩
    · rintro c rfl hc
      rw [cngJudge_counts hc] at hjudge
      exact ⟨judged_none hjudge, noTrigger_judgeReadings hjudge nofun⟩
    · rintro rfl
      refine ⟨?_, ?_⟩
      · have hjudged := judged_finding (f := cngFinding k) hjudge
        rw [← sideByte_eq]
        exact hjudged
      · cases k with
        | line => exact triggered_judgeReadings (f := cngFinding .line) hjudge rfl
        | network =>
          have hno := noTrigger_judgeReadings (fs := [cngFinding .network]) hjudge (by simp [cngFinding])
          exact ⟨fun _ => hno, nofun⟩
    · rintro c rfl
      exact ⟨judged_none hjudge, noTrigger_judgeReadings hjudge nofun⟩
  · subst hu
    have hjudge := judgeBlock_noCallingTone (now := (s.line l).ms) hrun halone ha hb
    refine ⟨noTrigger_judgeReadings hjudge (by rw [cngJudge_absent_silent]; nofun), ?_, ?_⟩
    · rintro ⟨c, rfl⟩
      exact judged_none hjudge
    · rintro c rfl
      refine ⟨fun hc => ?_, ?_⟩
      · rw [cngJudge_absence hc] at hjudge
        exact judged_none hjudge
      · rintro rfl
        exact judged_none hjudge
  · subst hu
    have hjudge := judgeBlock_answerTone (now := (s.line l).ms) hrun halone hside h1 h2 h3 h4
    refine ⟨?_, ?_, ?_⟩
    · rintro rfl
      exact ⟨judged_none hjudge, noTrigger_judgeReadings hjudge nofun⟩
    · rintro f c rfl
      refine ⟨fun hc => ?_, ?_⟩
      · rw [answerJudge_counts hc] at hjudge
        exact ⟨judged_none hjudge, noTrigger_judgeReadings hjudge nofun⟩
      · rintro rfl
        have hjudged := judged_finding (f := answerFinding k) hjudge
        refine ⟨?_, triggered_judgeReadings (f := answerFinding k) hjudge rfl, fun hchan hadv p hp =>
          judgeReadings_told (f := answerFinding k) hjudge rfl hchan hadv hp⟩
        rw [← sideByte_eq]
        exact hjudged
    · rintro f age last absence reversal reported rfl hreported
      rw [answerJudge_present] at hjudge
      have hreports : (decide (150 ≤ stepOf k a b) && decide (stepOf k a b ≤ 210) && absence == 0
          && reportsReversal (age + 1) reversal) = true ↔ reported := by
        rw [hreported]
        simp only [Bool.and_eq_true, decide_eq_true_eq, beq_iff_eq, reportsReversal_iff, and_assoc]
      by_cases h : reported
      · rw [if_pos (hreports.mpr h)] at hjudge
        refine ⟨noTrigger_judgeReadings (fs := [reversalFinding k]) hjudge (by simp [reversalFinding]),
          fun hn => absurd h hn, fun _ => ?_⟩
        rw [← sideByte_eq]
        exact judged_finding (f := reversalFinding k) hjudge
      · rw [if_neg (mt hreports.mp h)] at hjudge
        exact ⟨noTrigger_judgeReadings hjudge nofun, fun _ => judged_none hjudge, fun hy => absurd hy h⟩
  · subst hu
    have hjudge := judgeBlock_noAnswerTone (now := (s.line l).ms) hrun halone ha hb
    refine ⟨noTrigger_judgeReadings hjudge (answerJudge_absent_trigger _ _ _ _), ?_, ?_⟩
    · rintro ⟨f, c, rfl⟩
      exact judged_none hjudge
    · rintro f age last absence reversal rfl
      refine ⟨fun habs => ?_, ?_⟩
      · rw [answerJudge_absence habs] at hjudge
        exact judged_none hjudge
      · rintro rfl
        rw [← sideByte_eq]
        exact judged_finding (f := toneEndFinding k last) hjudge

end Sys2Proof.Machine
end

section
/-! SUPPORT. The slots of a Playout Buffer as its window: distances, what is found under a sequence number, and where every stored
frame stands (R51, R52). -/

namespace Sys2Proof.Machine

open Sys2Proof.Claim

/-! ### Distances (R52) -/

theorem distance_self (p : Word) : distance p p = 0 := by simp [distance]

theorem eq_of_distance_zero {q p : Word} (h : distance q p = 0) : q = p :=
  sub_eq_zero.mp (BitVec.toInt_inj.mp h)

theorem distance_range (q p : Word) : -32768 ≤ distance q p ∧ distance q p ≤ 32767 :=
  ⟨BitVec.le_toInt _, Int.le_of_lt_add_one (BitVec.toInt_lt (x := q - p))⟩

/-- A difference of words is the difference of their signed values where that stays in the signed range. -/
theorem toInt_sub_of_range {a b : Word} (h : -32768 ≤ a.toInt - b.toInt ∧ a.toInt - b.toInt ≤ 32767) :
    (a - b).toInt = a.toInt - b.toInt := by
  rw [BitVec.toInt_sub]
  exact Int.bmod_eq_of_le h.1 (Int.lt_add_one_of_le h.2)

/-- The distance from another point `s`, by the distances from `p`. -/
theorem distance_from {q s p : Word} (h : -32768 ≤ distance q p - distance s p ∧ distance q p - distance s p ≤ 32767) :
    distance q s = distance q p - distance s p := by
  rw [distance, show q - s = (q - p) - (s - p) by ring]
  exact toInt_sub_of_range h

/-- The distance of a point `s` from `p`, by the distances of `q` from both. -/
theorem distance_of_point {q s p : Word} (h : -32768 ≤ distance q p - distance q s ∧ distance q p - distance q s ≤ 32767) :
    distance s p = distance q p - distance q s := by
  rw [distance, show s - p = (q - p) - (q - s) by ring]
  exact toInt_sub_of_range h

/-- From the number after P every distance but the lowest is one less. -/
theorem distance_next {q p : Word} (h : -32767 ≤ distance q p) : distance q (p + 1) = distance q p - 1 := by
  have hone : distance (p + 1) p = 1 := by rw [distance, show p + 1 - p = 1 by ring]; rfl
  have hrange := distance_range q p
  rw [distance_from (p := p) (by omega), hone]

/-- The point that an AHEAD arrival sets lies 63 before it (R56). -/
theorem distance_aheadPoint (q : Word) : distance q (aheadPoint q) = 63 := by
  rw [distance, aheadPoint, show q - (q - 63) = 63 by ring]; rfl

/-! ### Slots -/

@[simp] theorem empty_slot (i : Fin 64) : Slots.empty[i] = none := by simp [Slots.empty]

theorem storeSlot_slot (slots : Slots) (r : FrameRecord) (i : Fin 64) :
    (storeSlot slots r)[i] = if i = slotOf r.sequence then some r else slots[i] := by
  simp [storeSlot, Vector.getElem_set, Fin.ext_iff, eq_comm]

theorem clearSlot_slot (slots : Slots) (q : Word) (i : Fin 64) :
    (clearSlot slots q)[i] = if i = slotOf q then none else slots[i] := by
  simp [clearSlot, Vector.getElem_set, Fin.ext_iff, eq_comm]

theorem toList_eq_map (slots : Slots) : slots.toList = (List.finRange 64).map fun i => slots[i] :=
  List.ext_getElem (by simp) fun i _ _ => by simp

theorem mem_toList_iff (slots : Slots) (o : Option FrameRecord) : o ∈ slots.toList ↔ ∃ i : Fin 64, slots[i] = o := by
  simp [toList_eq_map]

theorem isStored_iff (slots : Slots) (q : Word) : isStored slots q = true ↔ ∃ g, Holds slots q g := by
  simp only [isStored, Option.isSome_iff_exists, stored_eq_some_iff]

/-- A cleared slot holds no frame under its number. -/
theorem stored_clearSlot_same (slots : Slots) (q : Word) : stored? (clearSlot slots q) q = none := by
  simp [stored?, clearSlot]

theorem fitsAfter_iff (slots : Slots) (q : Word) :
    fitsAfter slots q = true ↔ ∀ (i : Fin 64) (g : FrameRecord), slots[i] = some g → (g.sequence - q).toInt ≤ 63 := by
  simp only [fitsAfter, List.all_eq_true, mem_toList_iff]
  constructor
  · intro h i g hg
    simpa using h (some g) ⟨i, hg⟩
  · rintro h o ⟨i, rfl⟩
    cases hi : slots[i] with
    | none => rfl
    | some g => simpa using h i g hi

/-- The frames that a move of the point leaves behind, counted slot by slot. -/
theorem countBehind_eq (slots : Slots) (p : Word) : countBehind slots p = (List.finRange 64).countP fun i =>
    match slots[i] with
    | some g => decide ((g.sequence - p).toInt < 0)
    | none => false := by
  rw [countBehind, toList_eq_map, List.countP_map]
  rfl

theorem keepAhead_eq_some_iff (p : Word) (o : Option FrameRecord) (g : FrameRecord) :
    keepAhead p o = some g ↔ o = some g ∧ 0 ≤ distance g.sequence p := by
  cases o with
  | none => simp [keepAhead]
  | some r =>
    simp only [keepAhead, Option.some.injEq]
    split
    next h => exact ⟨nofun, fun ⟨hr, h0⟩ => by subst hr; omega⟩
    next h => exact ⟨fun hr => by cases hr; exact ⟨rfl, by omega⟩, fun ⟨hr, _⟩ => congrArg some hr⟩

end Sys2Proof.Machine
end

section
/-! SUPPORT. Settled: an arrival for an open channel is classified by its distance from the playout point. -/

namespace Sys2Proof.Machine

open Sys2Proof.Claim

/-! ### The outcome of an arrival by its distance (R54 to R57) -/

theorem classify_unset {b : PlayoutBuffer} (hP : b.playoutPoint = none) (q : Word) : classify b q = .stored := by
  rw [classify, hP]

section
variable {b : PlayoutBuffer} {P q : Word} (hP : b.playoutPoint = some P)
include hP

theorem classify_in_window (h : 0 ≤ distance q P ∧ distance q P ≤ 63) :
    classify b q = if isStored b.slots q then .duplicate else .stored := by
  rw [classify, hP]
  exact if_pos h

theorem classify_behind (h : -1023 ≤ distance q P ∧ distance q P ≤ -1) :
    classify b q = if b.state = .priming ∧ -63 ≤ distance q P ∧ fitsAfter b.slots q = true then .early else .late := by
  rw [classify, hP]
  dsimp only
  rw [if_neg (by omega), if_pos h]

theorem classify_ahead (h : 64 ≤ distance q P ∧ distance q P ≤ 1023) : classify b q = .ahead := by
  rw [classify, hP]
  dsimp only
  rw [if_neg (by omega), if_neg (by omega), if_pos h]

theorem classify_beyond (h : distance q P ≤ -1024 ∨ 1024 ≤ distance q P) : classify b q = .restart := by
  rw [classify, hP]
  dsimp only
  rw [if_neg (by omega), if_neg (by omega), if_neg (by omega)]

end

/-! ### The intake of an arrival (R53, R58) -/

@[simp] theorem owner_arrive (x : LineState) (r : FrameRecord) : (arrive x r).owner = x.owner := by
  unfold arrive; cases classify x.buf r.sequence <;> simp only [applyArrival, storeFrame]

/-- A stored frame leaves a playout point that is set (R54). -/
theorem applyArrival_stored_of_point {x : LineState} {P : Word} (hP : x.buf.playoutPoint = some P) (r : FrameRecord) :
    applyArrival x r .stored = storeFrame x r x.buf x.depth x.ctr := by
  rw [applyArrival, hP, Option.getD_some, ← hP]

/-- The slots after an AHEAD arrival: no frame behind the new point, and the arrival in its own slot (R56). -/
theorem ahead_slot (slots : Slots) (r : FrameRecord) (i : Fin 64) :
    (storeSlot (Vector.ofFn fun i => keepAhead (aheadPoint r.sequence) slots[i]) r)[i] =
      if i = slotOf r.sequence then some r else keepAhead (aheadPoint r.sequence) slots[i] := by
  rw [storeSlot_slot, Fin.getElem_fin, Vector.getElem_ofFn]

/-- The owner's bare frame outside ADVERTISE and without a pending splice is classified, and a RESTART told (R53, R57). -/
theorem exec_mediaTaken_classified {p : Port} {l : Line} {body : List Byte} {r : FrameRecord} {s : State}
    (hsends : OwnerSends p l s) (hbody : BareBody l (s.line l).chan.sampleCounter body r)
    (ha : (s.line l).chan.agreement ≠ .advertise) (hp : (s.line l).buf.splicePending = false) :
    exec (.mediaTaken p body) s = .next (if classify (s.line l).buf r.sequence = .restart
      then latch p (.playoutAlert l) (s.modLine l fun x => arrive x r) else s.modLine l fun x => arrive x r) := by
  obtain ⟨f, hm, hline, hword, hr⟩ := mediaOf_bareBody hbody
  rw [exec_mediaTaken_open hsends hm hline, hword, hr, examineFrame, receiveBare_outside ha]
  have howner : ((s.modLine l fun x => arrive x r).line l).owner = some p := by
    rw [line_modLine_same, owner_arrive]; exact hsends.2.1
  simp only [deliverFrame, hp, alertsOnArrival, decide_eq_true_eq, latchOwner, howner]
  rfl

theorem arrive_eq {x : LineState} {r : FrameRecord} {o : ArrivalOutcome} (h : classify x.buf r.sequence = o) :
    arrive x r = applyArrival x r o := by rw [arrive, h]

/-- An arrival that is no RESTART changes its line alone, as its outcome says. -/
theorem exec_mediaTaken_outcome {p : Port} {l : Line} {body : List Byte} {r : FrameRecord} {s : State} {o : ArrivalOutcome}
    (hsends : OwnerSends p l s) (hbody : BareBody l (s.line l).chan.sampleCounter body r)
    (ha : (s.line l).chan.agreement ≠ .advertise) (hp : (s.line l).buf.splicePending = false)
    (hc : classify (s.line l).buf r.sequence = o) (ho : o ≠ .restart) :
    exec (.mediaTaken p body) s = .next (s.modLine l fun x => applyArrival x r o) := by
  rw [exec_mediaTaken_classified hsends hbody ha hp, if_neg (by rw [hc]; exact ho)]
  exact congrArg _ (modLine_congr (arrive_eq hc))

/-- Settles O54: the distance from P decides the outcome, and each outcome has its own effect on the line. -/
theorem arrivalsClassified : Obligations.ArrivalsClassified := by
  intro p l body r s hsends hbody ha hp
  refine ⟨fun hP => ?_, fun P d hP hd => ⟨fun h0 h63 => ?_, fun hlow hhigh early hearly => ?_, fun hlow hhigh => ?_,
    fun hfar => ?_⟩⟩
  · refine (exec_mediaTaken_outcome hsends hbody ha hp (classify_unset hP _) nofun).trans ?_
    refine congrArg _ (modLine_congr ?_)
    simp only [applyArrival, hP]
    rfl
  all_goals rw [← distance] at hd; subst hd
  · have hc := classify_in_window hP ⟨h0, h63⟩
    refine ⟨fun hheld => ?_, fun hnew => ?_⟩
    · rw [if_pos ((isStored_iff ..).mpr hheld)] at hc
      exact exec_mediaTaken_outcome hsends hbody ha hp hc nofun
    · rw [if_neg (by rw [isStored_iff]; exact fun ⟨g, hg⟩ => hnew g hg)] at hc
      refine (exec_mediaTaken_outcome hsends hbody ha hp hc nofun).trans (congrArg _ (modLine_congr ?_))
      exact applyArrival_stored_of_point hP r
  · have hc := classify_behind hP ⟨hlow, hhigh⟩
    rw [← fitsAfter_iff] at hearly
    refine ⟨fun he => ?_, fun he => ?_⟩
    · rw [if_pos (hearly.mp he)] at hc
      exact exec_mediaTaken_outcome hsends hbody ha hp hc nofun
    · rw [if_neg (mt hearly.mpr he)] at hc
      exact exec_mediaTaken_outcome hsends hbody ha hp hc nofun
  · refine ⟨storeSlot (Vector.ofFn fun i => keepAhead (aheadPoint r.sequence) (s.line l).buf.slots[i]) r,
      fun i hi g => ?_, ?_, (exec_mediaTaken_outcome hsends hbody ha hp (classify_ahead hP ⟨hlow, hhigh⟩) nofun).trans
        (congrArg _ (modLine_congr ?_))⟩
    · rw [ahead_slot, if_neg hi]
      exact keepAhead_eq_some_iff ..
    · rw [ahead_slot, if_pos rfl]
    · simp only [applyArrival, countBehind_eq]
      rfl
  · rw [exec_mediaTaken_classified hsends hbody ha hp, if_pos (classify_beyond hP hfar),
      modLine_congr (g := fun x => applyArrival x r .restart) (arrive_eq (classify_beyond hP hfar))]
    cases l <;> rfl

end Sys2Proof.Machine
end

section
/-! SUPPORT. Settled: the counters block of READ_COUNTERS, and its clearing. -/

namespace Sys2Proof.Machine

open Sys2Proof.Claim

/-! ### The counters block (R77, spec 10.3) -/

theorem agreementFlagsByte_eq (f : AgreementFlags) : agreementFlagsByte f
    = (if f.dataRefused then 1 else 0) + (if f.noCommon then 2 else 0) + (if f.farSilent then 4 else 0)
      + (if f.timeout then 8 else 0) := by
  unfold agreementFlagsByte
  cases f.dataRefused <;> cases f.noCommon <;> cases f.farSilent <;> cases f.timeout <;> rfl

theorem abilityByte_eq (set : BitVec 4) : abilityByte set = byteOf set.toNat := by
  apply BitVec.eq_of_toNat_eq
  simp [abilityByte, byteOf]

/-- A mode word's two bytes, its ignored bits as 0 (log 16). -/
theorem modeWordBytes_eq (w : ModeWord) : modeWordBytes w = [byteOf w.ability.toNat,
    (if w.ack then 128 else 0) + (if w.mediaClass = .data then 16 else 0) + modeByte w.mode] := by
  have hsecond : (boolByte w.ack <<< 7) ||| (classByte w.mediaClass <<< 4) ||| modeByte w.mode
      = (if w.ack then 128 else 0) + (if w.mediaClass = .data then 16 else 0) + modeByte w.mode := by
    cases w.ack <;> cases w.mediaClass <;> cases w.mode <;> rfl
  rw [modeWordBytes, hsecond, abilityByte_eq]

/-- A far word as it is reported: whether there is one, and its two bytes. -/
def farWordBytes : Option ModeWord → List Byte
  | some w => 1 :: modeWordBytes w
  | none => [0, 0, 0]

/-- A playout point as it is reported: whether it is set, and its number. -/
def pointBytes : Option Word → List Byte
  | some q => 1 :: wordBytes q
  | none => [0, 0, 0]

theorem agreementBytes_eq (c : MediaChannel) : agreementBytes c =
    [agreementFlagsByte c.flags, match c.choice with | some m => modeByte m | none => 0xFF] ++ farWordBytes c.farWord := by
  unfold agreementBytes farWordBytes
  cases c.farWord <;> rfl

theorem playoutBytes_eq (b : PlayoutBuffer) (t : DepthTracker) : playoutBytes b t =
    [channelByte b.state] ++ pointBytes b.playoutPoint
      ++ [byteOf (storedCount b.slots), byteOf b.missing, boolByte b.splicePending, byteOf b.spliceQueue.length]
      ++ dwordBytes (BitVec.ofInt 32 t.jitter) ++ dwordBytes (BitVec.ofInt 32 t.smoothed) ++ natBytes t.target := by
  unfold playoutBytes pointBytes
  cases b.playoutPoint <;> rfl

theorem farWordBytes_length (w : Option ModeWord) : (farWordBytes w).length = 3 := by cases w <;> rfl

theorem pointBytes_length (q : Option Word) : (pointBytes q).length = 3 := by cases q <;> rfl

theorem countersBlock_length (l : Line) (s : State) : (countersBlock l s).length = 53 := by
  simp only [countersBlock, agreementBytes_eq, playoutBytes_eq, List.length_append, farWordBytes_length, pointBytes_length]
  rfl

/-! ### READ_COUNTERS (R77, R78) -/

theorem exec_readCounters {s : State} {p : Port} (hf : Free s p) (tag clear : Byte) (l : Line) :
    exec (.readCounters p tag (lineByte l) clear) s
      = .next (replied p tag 0x46 .ok (countersBlock l s) (clearCounters clear l s)) := by
  refine congrArg _ ((issue_of_free hf _ _).trans ?_)
  simp only [doReadCounters, reportCommand, lineOf_lineByte]
  rfl

theorem exec_readCounters_all {s : State} {p : Port} (hf : Free s p) (tag clear : Byte) :
    exec (.readCounters p tag 3 clear) s = .next (replied p tag 0x46 .ok (countersBlock .one s ++ countersBlock .two s)
      (clearCounters clear .two (clearCounters clear .one s))) :=
  congrArg _ ((issue_of_free hf _ _).trans rfl)

/-- Settles O51: the block is the model's own, item by item. -/
theorem countersReportedAndCleared : Obligations.CountersReportedAndCleared := by
  intro p tag clear s zeroed hf hz
  have hclear : zeroed = clearCounters clear := funext fun l => funext fun t => hz l t
  subst hclear
  refine ⟨fun l => countersBlock l s, fun l => ⟨countersBlock_length l s, ?_⟩, fun l => exec_readCounters hf tag clear l,
    exec_readCounters_all hf tag clear⟩
  simp only [countersBlock, agreementBytes_eq, agreementFlagsByte_eq, playoutBytes_eq]
  cases (s.line l).chan.farWord <;> cases (s.line l).buf.playoutPoint <;>
    simp only [farWordBytes, pointBytes, modeWordBytes_eq, List.append_assoc] <;> rfl

end Sys2Proof.Machine
end

section
/-! SUPPORT. What a row can do to the slots and the playout point of a line, said once: the five moves, and the rows as chains of
them (R52 to R73). -/

namespace Sys2Proof.Machine

/-! ### The moves -/

/-- One move of a Playout Buffer: slots and P stay, the slots are emptied, a frame arrives, the frame at P is taken, or P
passes over an absent one (R54 to R57, R61, R63, R66). -/
inductive SlotsMove : PlayoutBuffer → PlayoutBuffer → Prop
  | settled {b c : PlayoutBuffer} (hs : c.slots = b.slots) (hp : c.playoutPoint = b.playoutPoint) : SlotsMove b c
  | emptied {b c : PlayoutBuffer} (hs : c.slots = Slots.empty) : SlotsMove b c
  | arrived (x : LineState) (r : FrameRecord) : SlotsMove x.buf (arrive x r).buf
  | taken {b c : PlayoutBuffer} {r : FrameRecord} (h : presentAtPoint b = some r)
      (hs : c.slots = clearSlot b.slots r.sequence) (hp : c.playoutPoint = some (r.sequence + 1)) : SlotsMove b c
  | passed {b c : PlayoutBuffer} (h : presentAtPoint b = none) (hs : c.slots = b.slots)
      (hp : c.playoutPoint = b.playoutPoint.map (· + 1)) : SlotsMove b c

/-- From one buffer to another by moves. -/
abbrev SlotsMoves : PlayoutBuffer → PlayoutBuffer → Prop := Relation.ReflTransGen SlotsMove

/-! ### The playout as moves (R59 to R73) -/

theorem slotsMoves_arriveAll (rs : List FrameRecord) : ∀ x : LineState, SlotsMoves x.buf (arriveAll x rs).1.buf := by
  induction rs with
  | nil => exact fun x => .refl
  | cons r rs ih => exact fun x => .head (.arrived x r) (ih (arrive x r))

theorem slotsMoves_spliceAppend (x : LineState) (r : FrameRecord) : SlotsMoves x.buf (spliceAppend x r).buf := by
  unfold spliceAppend
  split <;> exact .single (.settled rfl rfl)

theorem slotsMoves_switchStream (x : LineState) : SlotsMoves x.buf (switchStream x).1.buf :=
  .head (.emptied rfl) (.tail (slotsMoves_arriveAll x.buf.spliceQueue _) (.settled rfl rfl))

theorem slotsMoves_primingCheck (x : LineState) : SlotsMoves x.buf (primingCheck x).buf := by
  unfold primingCheck
  dsimp only
  split
  next r h =>
    split
    · exact .single (.taken h rfl rfl)
    · exact .single (.settled rfl rfl)
  · exact .single (.settled rfl rfl)

theorem slotsMoves_switchThenCheck (x : LineState) : SlotsMoves x.buf (primingCheck (switchStream x).1).buf :=
  (slotsMoves_switchStream x).trans (slotsMoves_primingCheck _)

theorem slotsMoves_passOver {x : LineState} (h : presentAtPoint x.buf = none) : SlotsMoves x.buf (passOver x).1.buf := by
  unfold passOver
  dsimp only
  split <;> exact .single (.passed h rfl rfl)

theorem slotsMoves_playingStart (x : LineState) : SlotsMoves x.buf (playingStart x).1.buf := by
  unfold playingStart
  split
  next r h => exact .single (.taken h rfl rfl)
  next h =>
    split
    · exact slotsMoves_switchThenCheck x
    · exact slotsMoves_passOver h

theorem slotsMoves_primingStart (x : LineState) : SlotsMoves x.buf (primingStart x).1.buf := by
  unfold primingStart
  split
  · exact slotsMoves_switchThenCheck x
  · exact slotsMoves_primingCheck x

theorem slotsMoves_drainingStart (x : LineState) : SlotsMoves x.buf (drainingStart x).buf := by
  unfold drainingStart
  split
  next r h => exact .single (.taken h rfl rfl)
  next => exact .single (.emptied rfl)

theorem slotsMoves_actOnReprime (x : LineState) : SlotsMoves x.buf (actOnReprime x).buf := by
  unfold actOnReprime
  split
  · dsimp only
    split <;> exact .single (.settled rfl rfl)
  · exact .refl

theorem slotsMoves_startPeriod (x : LineState) : SlotsMoves x.buf (startPeriod x).1.buf := by
  have hreprime := slotsMoves_actOnReprime x
  unfold startPeriod
  split
  · exact .single (.settled rfl rfl)
  · dsimp only
    split
    · exact hreprime.trans (slotsMoves_primingStart _)
    · exact hreprime.trans (slotsMoves_playingStart _)
    · exact hreprime.trans (slotsMoves_playingStart _)
    · exact hreprime.trans (slotsMoves_drainingStart _)
    · exact hreprime.tail (.settled rfl rfl)

/-! ### Both lines -/

/-- From `s` to `u` both lines' buffers are reached by moves. -/
structure SlotsMoved (s u : State) : Prop where
  line : ∀ l, SlotsMoves (s.line l).buf (u.line l).buf

theorem SlotsMoved.refl (s : State) : SlotsMoved s s := ⟨fun _ => .refl⟩

theorem SlotsMoved.trans {s t u : State} (h : SlotsMoved s t) (k : SlotsMoved t u) : SlotsMoved s u :=
  ⟨fun l => (h.line l).trans (k.line l)⟩

theorem slotsMoved_ite {c : Prop} [Decidable c] {s u v : State} (h : SlotsMoved s u) (k : SlotsMoved s v) :
    SlotsMoved s (if c then u else v) := by
  split
  · exact h
  · exact k

/-- An accepted work leaves its own state. -/
theorem SlotsMoved.accepted {s t : State} (h : SlotsMoved s t) (data : List Byte) : SlotsMoved s (accept t data).state := h

theorem slotsMoved_of_buf {s u : State} (h : ∀ l, (u.line l).buf = (s.line l).buf) : SlotsMoved s u :=
  ⟨fun l => by rw [h l]⟩

theorem CallsKept.slotsMoved {s u : State} (h : CallsKept s u) : SlotsMoved s u := slotsMoved_of_buf fun l => (h l).2.1

theorem slotsMoved_modPort (s : State) (p : Port) (f : PortLink → PortLink) : SlotsMoved s (s.modPort p f) :=
  (callsKept_modPort s p f).slotsMoved

theorem slotsMoved_modLine {s : State} {l : Line} {f : LineState → LineState}
    (h : SlotsMoves (s.line l).buf (f (s.line l)).buf) : SlotsMoved s (s.modLine l f) where
  line m := by
    rw [line_modLine]
    split
    next hm => subst hm; exact h
    next => exact .refl

/-- A change of a line that leaves its slots and its P. -/
theorem slotsMoved_settled {s : State} {l : Line} {f : LineState → LineState}
    (hs : (f (s.line l)).buf.slots = (s.line l).buf.slots)
    (hp : (f (s.line l)).buf.playoutPoint = (s.line l).buf.playoutPoint) : SlotsMoved s (s.modLine l f) :=
  slotsMoved_modLine (.single (.settled hs hp))

theorem slotsMoved_emptied {s : State} {l : Line} {f : LineState → LineState}
    (hs : (f (s.line l)).buf.slots = Slots.empty) : SlotsMoved s (s.modLine l f) :=
  slotsMoved_modLine (.single (.emptied hs))

theorem slotsMoved_modChan (s : State) (l : Line) (f : MediaChannel → MediaChannel) : SlotsMoved s (s.modChan l f) :=
  slotsMoved_settled rfl rfl

theorem slotsMoved_modCtr (s : State) (l : Line) (f : ChannelCounters → ChannelCounters) : SlotsMoved s (s.modCtr l f) :=
  slotsMoved_settled rfl rfl

theorem slotsMoved_followDetectors (l : Line) (s : State) : SlotsMoved s (followDetectors l s) :=
  (callsKept_followDetectors l s).slotsMoved

/-! ### Mode agreement and its triggers (R36 to R49) -/

theorem slotsMoved_restartAgreement (l : Line) (s : State) : SlotsMoved s (restartAgreement l s) :=
  slotsMoved_of_buf fun m => buf_restartAgreement l m s

theorem slotsMoved_enterPresumed (l : Line) (f : MediaChannel → MediaChannel) (s : State) :
    SlotsMoved s (enterPresumed l f s) :=
  slotsMoved_of_buf fun _ => (buf_modChan ..).trans ((buf_changeMode ..).trans (buf_setAgreement ..))

theorem slotsMoved_upspeed (l : Line) (t : UpspeedTrigger) (s : State) : SlotsMoved s (upspeed l t s) :=
  slotsMoved_ite ((slotsMoved_modChan s l _).trans (slotsMoved_ite (slotsMoved_of_buf fun m => buf_changeMode l m .d8 _)
    (slotsMoved_restartAgreement l _))) (.refl s)

theorem slotsMoved_applyFindings (l : Line) (fs : List Finding) : ∀ s : State, SlotsMoved s (applyFindings l fs s) := by
  induction fs with
  | nil => exact fun s => .refl s
  | cons f fs ih =>
    intro s
    refine .trans ?_ (ih (applyFinding l s f))
    unfold applyFinding
    cases f.trigger with
    | some k => exact (slotsMoved_upspeed l k s).trans (callsKept_storePlain l _ _ _ _).slotsMoved
    | none => exact (callsKept_storePlain l _ _ _ s).slotsMoved

/-! ### The Media Channel and its owner -/

theorem slotsMoved_purgeMedia (p : Port) (l : Line) (s : State) : SlotsMoved s (purgeMedia p l s) := by
  unfold purgeMedia
  exact (slotsMoved_modPort s p _).trans (slotsMoved_modCtr _ l _)

theorem slotsMoved_leavePort (l : Line) (o : Option Port) (s : State) : SlotsMoved s (leavePort l o s) := by
  cases o with
  | some p => exact (slotsMoved_modPort s p _).trans (slotsMoved_purgeMedia p l _)
  | none => exact .refl s

theorem slotsMoved_channelAtChange (l : Line) (s : State) : SlotsMoved s (channelAtChange l s) :=
  slotsMoved_ite (.refl s) ((slotsMoved_settled (f := pendSplice) rfl rfl).trans (slotsMoved_restartAgreement l _))

theorem slotsMoved_changeOwner (l : Line) (new : Option Port) (s : State) : SlotsMoved s (changeOwner l new s) :=
  (slotsMoved_settled (f := reowned new) rfl rfl).trans ((slotsMoved_leavePort ..).trans
    ((slotsMoved_channelAtChange l _).trans (callsKept_of_lines fun m => line_noticeQueued l m _).slotsMoved))

theorem slotsMoved_closeNow (l : Line) (s : State) : SlotsMoved s (closeNow l s) :=
  (slotsMoved_emptied (f := closeLine) rfl).trans (slotsMoved_followDetectors l _)

theorem slotsMoved_resetLine (g : Bool) (l : Line) (s : State) : SlotsMoved s (resetLine g l s) :=
  (callsKept_endRingCadence g l s).slotsMoved.trans (slotsMoved_emptied (f := resetLineState) rfl)

theorem slotsMoved_resetDevice (p : Port) (s : State) : SlotsMoved s (resetDevice p s) where
  line l := by
    refine .single (.emptied ?_)
    rw [line_resetDevice, dropOwner]
    split <;> rfl

theorem slotsMoved_makeRoom (p : Port) (s : State) : SlotsMoved s (makeRoom p s) := by
  refine slotsMoved_ite (.refl s) ?_
  dsimp only
  split
  · exact (slotsMoved_modPort s p _).trans (slotsMoved_modCtr _ _ _)
  · exact slotsMoved_modPort s p _

theorem slotsMoved_routeUplink (l : Line) (f : MediaFrame) (s : State) : SlotsMoved s (routeUplink l f s) := by
  unfold routeUplink
  split
  · exact (slotsMoved_makeRoom _ s).trans ((slotsMoved_modPort _ _ _).trans (slotsMoved_modCtr _ l _))
  · exact slotsMoved_modCtr s l _

theorem slotsMoved_beginPeriod (l : Line) (s : State) : SlotsMoved s (beginPeriod l s) := by
  have hstart : SlotsMoved s (s.modLine l fun _ => (startPeriod (s.line l)).1) :=
    slotsMoved_modLine (slotsMoves_startPeriod _)
  have hnotice := slotsMoved_ite (c := (startPeriod (s.line l)).2 = true)
    (hstart.trans (callsKept_latchOwner l (.playoutAlert l) _).slotsMoved) hstart
  exact slotsMoved_ite (hnotice.trans (slotsMoved_followDetectors l _)) hnotice

theorem slotsMoved_deliverFrame (l : Line) (r : FrameRecord) (s : State) : SlotsMoved s (deliverFrame l r s) := by
  have harrive : SlotsMoved s (s.modLine l fun x => arrive x r) := slotsMoved_modLine (.single (.arrived _ r))
  exact slotsMoved_ite (slotsMoved_modLine (slotsMoves_spliceAppend _ r))
    (slotsMoved_ite (harrive.trans (callsKept_latchOwner l _ _).slotsMoved) harrive)

theorem slotsMoved_routeFrame (p : Port) (f : MediaFrame) (s : State) : SlotsMoved s (routeFrame p f s) :=
  slotsMoved_ite (slotsMoved_ite
    ((slotsMoved_of_buf fun m => buf_examineFrame f.line m f.word s).trans (slotsMoved_deliverFrame ..))
    (slotsMoved_modCtr s _ _)) (slotsMoved_modCtr s _ _)

theorem slotsMoved_lineSample {rx1 rx2 : Sample} {s : State} :
    SlotsMoved s (passBlock (passMillisecond { s with
      line1 := sampleLine rx1 s.line1, line2 := sampleLine rx2 s.line2, ring := laterMoment s.ring
      tick := (s.tick + 1) % 40 })) where
  line l := by
    rw [line_lineSample (rx := if l = .one then rx1 else rx2) l (by rintro rfl; rfl) (by rintro rfl; rfl)]
    exact .single (.settled rfl rfl)

end Sys2Proof.Machine
end

section
/-! SUPPORT. Commands as moves of the slots: those that keep every call, those that change a channel or its owner, and every row
of the table. -/

namespace Sys2Proof.Machine

/-! ### Commands that keep every call -/

theorem callsKept_eventsOnLine (l : Line) (s : State) : CallsKept s (eventsOnLine l s).state :=
  callsKept_modLine ⟨rfl, rfl, rfl, rfl⟩

theorem callsKept_feedOnLine (mode : Byte) (l : Line) (s : State) : CallsKept s (feedOnLine mode l s).state := by
  unfold feedOnLine
  split
  · exact .refl s
  next m _ =>
    split
    · exact .refl s
    · exact callsKept_changeFeed l m s

theorem callsKept_timingOnLine (t : HookTiming) (l : Line) (s : State) : CallsKept s (timingOnLine t l s).state := by
  unfold timingOnLine
  split
  · exact callsKept_modSup s l _
  · exact .refl s

theorem callsKept_ringStartOnLine (step : Byte) (l : Line) (s : State) : CallsKept s (ringStartOnLine step l s).state := by
  unfold ringStartOnLine
  split
  · exact .refl s
  · split
    · exact (callsKept_stopRing l s).trans ((callsKept_wake l _).trans ((callsKept_startCadence .ring l _ _).trans
        (callsKept_settleQualification l _)))
    · exact .refl s

theorem callsKept_ringStopOnLine (l : Line) (s : State) : CallsKept s (ringStopOnLine l s).state :=
  callsKept_ite ((callsKept_stopRing l s).trans (callsKept_settleQualification l _)) (.refl s)

theorem callsKept_toneStartOnLine (step : Byte) (l : Line) (s : State) : CallsKept s (toneStartOnLine step l s).state := by
  unfold toneStartOnLine
  split
  · split
    · exact (callsKept_stopTone l s).trans (callsKept_startCadence .tone l _ _)
    · exact .refl s
  · exact .refl s

theorem callsKept_loadOnLine (f : CallerFields) (l : Line) (s : State) : CallsKept s (loadOnLine f l s).state := by
  unfold loadOnLine
  dsimp only
  split
  · exact .refl s
  · split
    · exact callsKept_modCid s l _
    · exact .refl s

theorem callsKept_doReadLine (line : Byte) (s : State) : CallsKept s (doReadLine line s).state := by
  unfold doReadLine reportCommand
  split
  · exact .refl s
  · split <;> exact .refl s

theorem callsKept_doTablePointer (p : Port) (i : Byte) (s : State) : CallsKept s (doTablePointer p i s).state := by
  unfold doTablePointer
  split
  · exact callsKept_modPort s p _
  · exact .refl s

theorem callsKept_doTableWrite (p : Port) (e0 e1 e2 e3 e4 e5 : Byte) (s : State) :
    CallsKept s (doTableWrite p e0 e1 e2 e3 e4 e5 s).state := by
  unfold doTableWrite
  dsimp only
  split
  next h => exact (callsKept_writeEntry h).trans (callsKept_modPort _ p _)
  next => exact .refl s

theorem callsKept_doTableRead (p : Port) (s : State) : CallsKept s (doTableRead p s).state :=
  callsKept_ite (.refl s) (callsKept_modPort s p _)

theorem callsKept_doTableHold (p : Port) (s : State) : CallsKept s (doTableHold p s).state := by
  unfold doTableHold
  split
  · exact .refl s
  · exact callsKept_modPort s p _

theorem callsKept_doTableEnd (p : Port) (s : State) : CallsKept s (doTableEnd p s).state := by
  unfold doTableEnd
  split
  · exact callsKept_modPort s p _
  · exact .refl s

theorem callsKept_doReadNotices (p : Port) (s : State) : CallsKept s (doReadNotices p s).state := callsKept_modPort s p _

theorem callsKept_doSetNoticeMask (p : Port) (m : Word) (s : State) : CallsKept s (doSetNoticeMask p m s).state :=
  callsKept_modPort s p _

/-! ### Commands that change a channel or its owner -/

theorem slotsMoved_openOnLine (ability : Byte) (q : ChannelParams) (l : Line) (s : State) :
    SlotsMoved s (openOnLine ability q l s).state := by
  unfold openOnLine
  split
  · exact .refl s
  · split
    · exact (slotsMoved_emptied (f := openLine q (abilityOf ability)) rfl).trans (slotsMoved_followDetectors l _)
    · exact .refl s

theorem slotsMoved_closeOnLine (l : Line) (s : State) : SlotsMoved s (closeOnLine l s).state := by
  unfold closeOnLine
  split
  · exact .refl s
  · exact slotsMoved_closeNow l s

theorem slotsMoved_drainOnLine (l : Line) (s : State) : SlotsMoved s (drainOnLine l s).state := by
  unfold drainOnLine
  split
  · exact .refl s
  · exact .refl s
  · exact slotsMoved_settled (f := drainLine) rfl rfl

theorem slotsMoved_closeByOption (option : Byte) (l : Line) (s : State) :
    SlotsMoved s (closeByOption option l s).state := by
  unfold closeByOption
  split
  · exact slotsMoved_closeOnLine l s
  · split
    · exact slotsMoved_drainOnLine l s
    · split <;> exact .refl s

theorem slotsMoved_flushOnLine (l : Line) (s : State) : SlotsMoved s (flushOnLine l s).state := by
  unfold flushOnLine
  split
  · exact .refl s
  · exact slotsMoved_emptied (f := fun x => { x with buf := flushBuffer x.buf }) rfl

theorem slotsMoved_abilityOnLine (ability : Byte) (l : Line) (s : State) :
    SlotsMoved s (abilityOnLine ability l s).state := by
  unfold abilityOnLine
  dsimp only
  split
  · exact .refl s
  · split
    · exact .refl s
    · split
      · exact SlotsMoved.accepted (slotsMoved_modChan s l _) _
      · exact .refl s

theorem slotsMoved_classOnLine (mediaClass : Byte) (l : Line) (s : State) :
    SlotsMoved s (classOnLine mediaClass l s).state := by
  unfold classOnLine
  split
  · exact .refl s
  · split
    · exact (slotsMoved_modChan s l _).trans (slotsMoved_restartAgreement l _)
    · exact .refl s

theorem slotsMoved_restartOnLine (l : Line) (s : State) : SlotsMoved s (restartOnLine l s).state := by
  unfold restartOnLine
  split
  · exact .refl s
  · exact slotsMoved_restartAgreement l s

/-- The work of every row that needs ownership. -/
theorem OwnerWork.slotsMoved {p : Port} {w : Line → State → Answer} (h : OwnerWork p w) (l : Line) (s : State) :
    SlotsMoved s (w l s).state := by
  cases h with
  | release => exact slotsMoved_changeOwner l none s
  | handOver => exact SlotsMoved.accepted ((slotsMoved_changeOwner l _ s).trans (slotsMoved_modPort _ _ _)) _
  | readEvents => exact (callsKept_eventsOnLine l s).slotsMoved
  | lineReset => exact slotsMoved_resetLine true l s
  | setFeed mode => exact (callsKept_feedOnLine mode l s).slotsMoved
  | setHookTiming t => exact (callsKept_timingOnLine t l s).slotsMoved
  | ringStart step => exact (callsKept_ringStartOnLine step l s).slotsMoved
  | ringStop => exact (callsKept_ringStopOnLine l s).slotsMoved
  | toneStart step => exact (callsKept_toneStartOnLine step l s).slotsMoved
  | toneStop => exact (callsKept_stopTone l s).slotsMoved
  | loadCallerId f => exact (callsKept_loadOnLine f l s).slotsMoved
  | channelOpen ability q => exact slotsMoved_openOnLine ability q l s
  | channelClose => exact slotsMoved_closeOnLine l s
  | channelDrain => exact slotsMoved_drainOnLine l s
  | channelCloseBy option => exact slotsMoved_closeByOption option l s
  | channelFlush => exact slotsMoved_flushOnLine l s
  | setAbility ability => exact slotsMoved_abilityOnLine ability l s
  | setClass mediaClass => exact slotsMoved_classOnLine mediaClass l s
  | agreementRestart => exact slotsMoved_restartOnLine l s

/-- Work on the lines that a port owns of those a field names: none, one, or Line 1 and then Line 2. -/
theorem slotsMoved_ownerCommand {p : Port} {w : Line → State → Answer} (h : OwnerWork p w) (field : Byte) (s : State) :
    SlotsMoved s (ownerCommand p field w s).state := by
  unfold ownerCommand
  split
  · split
    · exact h.slotsMoved _ s
    · exact .refl s
  · split
    · split
      · exact .refl s
      · exact h.slotsMoved .one s
      · exact h.slotsMoved .two s
      · exact (h.slotsMoved .one s).trans (h.slotsMoved .two _)
    · exact .refl s

theorem slotsMoved_doClaim (p : Port) (line owner : Byte) (g : Word) (s : State) :
    SlotsMoved s (doClaim p line owner g s).state := by
  unfold doClaim
  split
  · unfold claimLine
    split
    · exact slotsMoved_ite (.refl s) (slotsMoved_changeOwner ..)
    · exact .refl s
  · exact .refl s
  · exact .refl s

theorem slotsMoved_clearCounters (clear : Byte) (l : Line) (s : State) : SlotsMoved s (clearCounters clear l s) :=
  slotsMoved_ite (.refl s) (slotsMoved_modCtr s l _)

theorem slotsMoved_doReadCounters (line clear : Byte) (s : State) : SlotsMoved s (doReadCounters line clear s).state := by
  unfold doReadCounters reportCommand
  split
  · exact slotsMoved_clearCounters clear _ s
  · split
    · exact (slotsMoved_clearCounters clear .one s).trans (slotsMoved_clearCounters clear .two _)
    · exact .refl s

theorem slotsMoved_doLoadCallerId (p : Port) (c : Command) (s : State) :
    SlotsMoved s (doLoadCallerIdBytes p c s).state := by
  unfold doLoadCallerIdBytes
  split
  · exact .refl s
  · split
    · unfold doLoadCallerId
      split
      · exact .refl s
      · exact slotsMoved_ownerCommand (.loadCallerId _) _ s
    · exact .refl s

theorem slotsMoved_doDeviceReset (p : Port) (s : State) : SlotsMoved s (doDeviceReset p s).state := by
  unfold doDeviceReset
  split
  · exact .refl s
  · exact slotsMoved_resetDevice p s

/-! ### Execution, issue and the FIFO (R181, R182, R185) -/

/-- The execution of every known command. -/
theorem slotsMoved_run (k : CommandCode) (p : Port) (c : Command) (s : State) : SlotsMoved s (run k p c s).state := by
  cases k with
  | nop => exact .refl s
  | readNotices => exact (callsKept_doReadNotices _ _).slotsMoved
  | setNoticeMask => exact (callsKept_doSetNoticeMask _ _ _).slotsMoved
  | claim => exact slotsMoved_doClaim ..
  | release => exact slotsMoved_ownerCommand .release ..
  | handOver => exact slotsMoved_ownerCommand .handOver ..
  | readLine => exact (callsKept_doReadLine _ _).slotsMoved
  | readEvents => exact slotsMoved_ownerCommand .readEvents ..
  | lineReset => exact slotsMoved_ownerCommand .lineReset ..
  | deviceReset => exact slotsMoved_doDeviceReset ..
  | setFeed => exact slotsMoved_ownerCommand (.setFeed _) ..
  | setHookTiming => exact slotsMoved_ownerCommand (.setHookTiming _) ..
  | ringStart => exact slotsMoved_ownerCommand (.ringStart _) ..
  | ringStop => exact slotsMoved_ownerCommand .ringStop ..
  | toneStart => exact slotsMoved_ownerCommand (.toneStart _) ..
  | toneStop => exact slotsMoved_ownerCommand .toneStop ..
  | loadCallerId => exact slotsMoved_doLoadCallerId ..
  | channelOpen => exact slotsMoved_ownerCommand (.channelOpen _ _) ..
  | channelClose => exact slotsMoved_ownerCommand (.channelCloseBy _) ..
  | channelFlush => exact slotsMoved_ownerCommand .channelFlush ..
  | setAbility => exact slotsMoved_ownerCommand (.setAbility _) ..
  | setClass => exact slotsMoved_ownerCommand (.setClass _) ..
  | agreementRestart => exact slotsMoved_ownerCommand .agreementRestart ..
  | readCounters => exact slotsMoved_doReadCounters ..
  | tablePointer => exact (callsKept_doTablePointer _ _ _).slotsMoved
  | tableWrite => exact (callsKept_doTableWrite _ _ _ _ _ _ _ _).slotsMoved
  | tableRead => exact (callsKept_doTableRead _ _).slotsMoved
  | tableHold => exact (callsKept_doTableHold _ _).slotsMoved
  | tableEnd => exact (callsKept_doTableEnd _ _).slotsMoved

theorem slotsMoved_perform (p : Port) (c : Command) (s : State) : SlotsMoved s (perform p c s).state := by
  unfold perform
  split
  · split
    · exact slotsMoved_run ..
    · exact .refl s
  · exact .refl s

theorem slotsMoved_answerReply {p : Port} {c : Command} {a : Answer} {s : State} (h : SlotsMoved s a.state) :
    SlotsMoved s (answerReply p c a) := h.trans (callsKept_of_lines (line_answerReply p c a)).slotsMoved

/-- A command taken executes, waits or is lost. -/
theorem slotsMoved_issue {p : Port} {c : Command} {act : State → Answer} {s : State} (h : SlotsMoved s (act s).state) :
    SlotsMoved s (issue p c act s) :=
  slotsMoved_ite (slotsMoved_answerReply h) (callsKept_of_lines (line_enqueueCommand p c s)).slotsMoved

/-- The commands of a FIFO that execute, one after another. -/
theorem slotsMoved_drainFifo (p : Port) (n : Nat) : ∀ s : State, SlotsMoved s (drainFifo p n s) := by
  induction n with
  | zero => exact fun s => .refl s
  | succ n ih =>
    intro s
    unfold drainFifo
    split
    next c rest _ =>
      have hexecuted : SlotsMoved s (answerReply p c (perform p c (s.modPort p fun q => { q with fifo := rest }))) :=
        slotsMoved_answerReply ((slotsMoved_modPort s p _).trans (slotsMoved_perform p c _))
      exact slotsMoved_ite (hexecuted.trans (ih _)) (.refl s)
    next => exact .refl s

/-! ### Every row -/

/-- What every row does to the slots and the playout point of both lines is a chain of moves. -/
theorem exec_slotsMoved {c : Instr} {s t : State} (h : exec c s = .next t) : SlotsMoved s t := by
  cases c <;> cases h
  case powerOnReset => exact ⟨fun l => .single (.emptied (by cases l <;> rfl))⟩
  case chipSelectLow p kind => exact slotsMoved_ite (slotsMoved_modPort s p _) (.refl s)
  case chipSelectHigh p clocked =>
    exact slotsMoved_ite ((slotsMoved_modPort s p _).trans ((slotsMoved_modPort _ p _).trans (slotsMoved_modPort _ p _)))
      (slotsMoved_modPort s p _)
  case commandTaken p body =>
    split
    · split
      · exact slotsMoved_issue (slotsMoved_perform p _ s)
      · exact slotsMoved_modPort s p _
    · exact .refl s
  case foreignMessage p type body => exact slotsMoved_ite (slotsMoved_modPort s p _) (.refl s)
  case mediaTaken p body =>
    split
    · split
      · exact slotsMoved_routeFrame p _ s
      · exact slotsMoved_modPort s p _
    · exact .refl s
  case messageSent p =>
    exact slotsMoved_ite (((slotsMoved_modPort s p _).trans (slotsMoved_drainFifo p _ _)).trans
      (slotsMoved_modPort _ p _)) (.refl s)
  case unknownCommand => exact slotsMoved_issue (.refl s)
  case nop => exact slotsMoved_issue (.refl s)
  case readNotices => exact slotsMoved_issue (callsKept_doReadNotices _ _).slotsMoved
  case setNoticeMask => exact slotsMoved_issue (callsKept_doSetNoticeMask _ _ _).slotsMoved
  case claim => exact slotsMoved_issue (slotsMoved_doClaim ..)
  case release => exact slotsMoved_issue (slotsMoved_ownerCommand .release ..)
  case handOver => exact slotsMoved_issue (slotsMoved_ownerCommand .handOver ..)
  case readLine => exact slotsMoved_issue (callsKept_doReadLine _ _).slotsMoved
  case readEvents => exact slotsMoved_issue (slotsMoved_ownerCommand .readEvents ..)
  case lineReset => exact slotsMoved_issue (slotsMoved_ownerCommand .lineReset ..)
  case deviceReset => exact slotsMoved_issue (slotsMoved_doDeviceReset ..)
  case setFeed => exact slotsMoved_issue (slotsMoved_ownerCommand (.setFeed _) ..)
  case setHookTiming => exact slotsMoved_issue (slotsMoved_ownerCommand (.setHookTiming _) ..)
  case ringStart => exact slotsMoved_issue (slotsMoved_ownerCommand (.ringStart _) ..)
  case ringStop => exact slotsMoved_issue (slotsMoved_ownerCommand .ringStop ..)
  case toneStart => exact slotsMoved_issue (slotsMoved_ownerCommand (.toneStart _) ..)
  case toneStop => exact slotsMoved_issue (slotsMoved_ownerCommand .toneStop ..)
  case loadCallerId => exact slotsMoved_issue (slotsMoved_doLoadCallerId ..)
  case channelOpen => exact slotsMoved_issue (slotsMoved_ownerCommand (.channelOpen _ _) ..)
  case channelCloseImmediate => exact slotsMoved_issue (slotsMoved_ownerCommand .channelClose ..)
  case channelCloseDrain => exact slotsMoved_issue (slotsMoved_ownerCommand .channelDrain ..)
  case channelFlush => exact slotsMoved_issue (slotsMoved_ownerCommand .channelFlush ..)
  case setAbility => exact slotsMoved_issue (slotsMoved_ownerCommand (.setAbility _) ..)
  case setClass => exact slotsMoved_issue (slotsMoved_ownerCommand (.setClass _) ..)
  case agreementRestart => exact slotsMoved_issue (slotsMoved_ownerCommand .agreementRestart ..)
  case readCounters => exact slotsMoved_issue (slotsMoved_doReadCounters ..)
  case tablePointer => exact slotsMoved_issue (callsKept_doTablePointer _ _ _).slotsMoved
  case tableWrite => exact slotsMoved_issue (callsKept_doTableWrite _ _ _ _ _ _ _ _).slotsMoved
  case tableRead => exact slotsMoved_issue (callsKept_doTableRead _ _).slotsMoved
  case tableHold => exact slotsMoved_issue (callsKept_doTableHold _ _).slotsMoved
  case tableEnd => exact slotsMoved_issue (callsKept_doTableEnd _ _).slotsMoved
  case uplinkBoundary l =>
    exact slotsMoved_ite ((slotsMoved_modChan s l afterUplink).trans (slotsMoved_routeUplink l _ _)) (.refl s)
  case frameStart l => exact slotsMoved_ite (slotsMoved_beginPeriod l s) (.refl s)
  case agreementTimeout l => exact slotsMoved_ite (slotsMoved_enterPresumed l _ s) (.refl s)
  case filteredOffHookEdge l => exact slotsMoved_ite (callsKept_offHookEdge l s).slotsMoved (.refl s)
  case filteredOnHookEdge l => exact slotsMoved_ite (callsKept_modSup s l _).slotsMoved (.refl s)
  case offHookQualified l => exact slotsMoved_ite (callsKept_completeQualification l s).slotsMoved (.refl s)
  case hangUp l =>
    split
    · exact (callsKept_doHangUp l _ s).slotsMoved
    · exact .refl s
  case interdigitExpiry l => exact slotsMoved_ite (callsKept_emitDigit l s).slotsMoved (.refl s)
  case overcurrentStart l => exact slotsMoved_settled rfl rfl
  case overcurrentEnd l => exact (callsKept_modSup s l _).slotsMoved
  case loopFault l => exact slotsMoved_ite (callsKept_declareFault l s).slotsMoved (.refl s)
  case faultRetryExpiry l => exact slotsMoved_ite (slotsMoved_settled (f := restoreFeed) rfl rfl) (.refl s)
  case feedRestored l =>
    exact slotsMoved_ite ((callsKept_modSup s l _).trans (callsKept_emit l _ _ _ _ _)).slotsMoved (.refl s)
  case detectorBlockBoundary l a b =>
    exact slotsMoved_ite (.trans (slotsMoved_settled rfl rfl) (slotsMoved_applyFindings l _ _)) (.refl s)
  case stepTimerExpiry l =>
    exact slotsMoved_ite ((callsKept_ite (callsKept_endRinging true l s) (.refl s)).trans
      (callsKept_advanceCadence l _)).slotsMoved (.refl s)
  case startTimerExpiry => exact (callsKept_startTimer s).slotsMoved
  case keepWarmExpiry => exact slotsMoved_ite (callsKept_modRing s _).slotsMoved (.refl s)
  case cidDone l => exact slotsMoved_ite (callsKept_completeTransmission l s).slotsMoved (.refl s)
  case hookSample l b => exact (callsKept_modSup s l _).slotsMoved
  case lineSample rx1 rx2 => exact slotsMoved_lineSample

end Sys2Proof.Machine
end

section
/-! SUPPORT. Settled: every step keeps each stored frame in its own slot within the window of the playout point. -/

namespace Sys2Proof.Machine

open Sys2Proof.Safety

/-! ### The window of a playout point (R52) -/

/-- A sequence number lies among the 64 from a point on. -/
def InWindow (p q : Word) : Prop := 0 ≤ distance q p ∧ distance q p ≤ 63

theorem inWindow_self (p : Word) : InWindow p p := by simp [InWindow, distance_self]

theorem inWindow_aheadPoint (q : Word) : InWindow (aheadPoint q) q := by simp [InWindow, distance_aheadPoint]

/-- Every stored frame stands in its own slot, in the window of `p`. -/
def FramesFit (slots : Slots) (p : Word) : Prop :=
  ∀ (i : Fin 64) (g : FrameRecord), slots[i] = some g → slotOf g.sequence = i ∧ InWindow p g.sequence

theorem slotsWindowed_iff_of_point {b : PlayoutBuffer} {p : Word} (hP : b.playoutPoint = some p) :
    SlotsWindowed b ↔ FramesFit b.slots p := by
  simp [SlotsWindowed, FramesFit, InWindow, hP]

theorem framesFit_empty (p : Word) : FramesFit Slots.empty p := fun i _ hg => nomatch (empty_slot i).symm.trans hg

theorem slotsWindowed_of_empty {b : PlayoutBuffer} (h : b.slots = Slots.empty) : SlotsWindowed b := by
  intro i g hg
  rw [h, empty_slot] at hg
  cases hg

/-- With P unset no frame is stored, so any point's window holds all of them. -/
theorem framesFit_of_unset {b : PlayoutBuffer} (h : SlotsWindowed b) (hP : b.playoutPoint = none) (p : Word) :
    FramesFit b.slots p := by
  intro i g hg
  obtain ⟨-, q, hq, -⟩ := h i g hg
  rw [hP] at hq
  cases hq

theorem FramesFit.store {slots : Slots} {p : Word} (h : FramesFit slots p) {r : FrameRecord}
    (hr : InWindow p r.sequence) : FramesFit (storeSlot slots r) p := by
  intro i g hg
  rw [storeSlot_slot] at hg
  split at hg
  next hi => cases hg; exact ⟨hi.symm, hr⟩
  next => exact h i g hg

theorem FramesFit.clear {slots : Slots} {p : Word} (h : FramesFit slots p) (q : Word) : FramesFit (clearSlot slots q) p := by
  intro i g hg
  rw [clearSlot_slot] at hg
  split at hg
  · cases hg
  · exact h i g hg

/-- P advances past a number that is not stored, and the window with it. -/
theorem FramesFit.next {slots : Slots} {p : Word} (h : FramesFit slots p) (hp : stored? slots p = none) :
    FramesFit slots (p + 1) := by
  intro i g hg
  obtain ⟨rfl, h0, h63⟩ := h i g hg
  have hne : distance g.sequence p ≠ 0 := fun hd => by
    obtain rfl := eq_of_distance_zero hd
    rw [(stored_eq_some_iff ..).mpr ⟨hg, rfl⟩] at hp
    cases hp
  have hnext := distance_next (q := g.sequence) (p := p) (by omega)
  exact ⟨rfl, by omega, by omega⟩

/-- An EARLY arrival before P opens a window that still holds every stored frame (R55). -/
theorem FramesFit.early {slots : Slots} {p q : Word} (h : FramesFit slots p) (hq : -63 ≤ distance q p ∧ distance q p ≤ -1)
    (hfits : fitsAfter slots q = true) : FramesFit slots q := by
  intro i g hg
  obtain ⟨hi, h0, h63⟩ := h i g hg
  have hd := distance_from (q := g.sequence) (s := q) (p := p) (by omega)
  exact ⟨hi, by omega, (fitsAfter_iff ..).mp hfits i g hg⟩

/-- After an AHEAD arrival the frames that are kept lie in the window of the new point (R56). -/
theorem FramesFit.ahead {slots : Slots} {p q : Word} (h : FramesFit slots p)
    (hq : 64 ≤ distance q p ∧ distance q p ≤ 1023) :
    FramesFit (Vector.ofFn fun i => keepAhead (aheadPoint q) slots[i]) (aheadPoint q) := by
  intro i g hg
  rw [Fin.getElem_fin, Vector.getElem_ofFn] at hg
  obtain ⟨hold, h0⟩ := (keepAhead_eq_some_iff ..).mp hg
  obtain ⟨hi, hlow, h63⟩ := h i g hold
  have hpoint := distance_of_point (q := q) (s := aheadPoint q) (p := p) (by rw [distance_aheadPoint]; omega)
  rw [distance_aheadPoint] at hpoint
  have hd := distance_from (q := g.sequence) (s := aheadPoint q) (p := p) (by omega)
  exact ⟨hi, h0, by omega⟩

/-! ### Each move keeps the window -/

theorem slotsWindowed_storeFrame (x : LineState) {r : FrameRecord} {b : PlayoutBuffer} {p : Word} (t : DepthTracker)
    (k : ChannelCounters) (hP : b.playoutPoint = some p) (h : FramesFit b.slots p) (hr : InWindow p r.sequence) :
    SlotsWindowed (storeFrame x r b t k).buf :=
  (slotsWindowed_iff_of_point (b := (storeFrame x r b t k).buf) hP).mpr (h.store hr)

theorem slotsWindowed_arrive {x : LineState} (h : SlotsWindowed x.buf) (r : FrameRecord) :
    SlotsWindowed (arrive x r).buf := by
  cases hP : x.buf.playoutPoint with
  | none =>
    rw [arrive_eq (classify_unset hP _), applyArrival, hP]
    exact slotsWindowed_storeFrame x _ _ rfl (framesFit_of_unset h hP _) (inWindow_self _)
  | some p =>
    have hfit := (slotsWindowed_iff_of_point hP).mp h
    by_cases hwindow : 0 ≤ distance r.sequence p ∧ distance r.sequence p ≤ 63
    · have hc := classify_in_window hP hwindow
      split at hc
      · rw [arrive_eq hc]; exact h
      · rw [arrive_eq hc, applyArrival_stored_of_point hP]
        exact slotsWindowed_storeFrame x _ _ hP hfit hwindow
    by_cases hbehind : -1023 ≤ distance r.sequence p ∧ distance r.sequence p ≤ -1
    · have hc := classify_behind hP hbehind
      split at hc
      next hearly =>
        rw [arrive_eq hc]
        exact slotsWindowed_storeFrame x _ _ rfl (hfit.early ⟨hearly.2.1, hbehind.2⟩ hearly.2.2) (inWindow_self _)
      next => rw [arrive_eq hc]; exact h
    by_cases hahead : 64 ≤ distance r.sequence p ∧ distance r.sequence p ≤ 1023
    · rw [arrive_eq (classify_ahead hP hahead)]
      exact slotsWindowed_storeFrame x _ _ rfl (hfit.ahead hahead) (inWindow_aheadPoint _)
    · rw [arrive_eq (classify_beyond hP (by omega))]
      exact slotsWindowed_storeFrame x _ _ rfl (framesFit_empty _) (inWindow_self _)

/-- The frame at P is the one stored under P's number. -/
theorem presentAtPoint_eq_some {b : PlayoutBuffer} {r : FrameRecord} (h : presentAtPoint b = some r) :
    b.playoutPoint = some r.sequence := by
  obtain ⟨p, hP, hr⟩ := Option.bind_eq_some_iff.mp h
  rw [hP, ((stored_eq_some_iff ..).mp hr).2]

theorem SlotsMove.windowed {b c : PlayoutBuffer} (h : SlotsMove b c) (hb : SlotsWindowed b) : SlotsWindowed c := by
  cases h with
  | settled hs hp => simpa only [SlotsWindowed, hs, hp] using hb
  | emptied hs => exact slotsWindowed_of_empty hs
  | arrived x r => exact slotsWindowed_arrive hb r
  | taken h hs hp =>
    have hfit := (slotsWindowed_iff_of_point (presentAtPoint_eq_some h)).mp hb
    rw [slotsWindowed_iff_of_point hp, hs]
    exact (hfit.clear _).next (stored_clearSlot_same ..)
  | passed h hs hp =>
    cases hP : b.playoutPoint with
    | none => simpa only [SlotsWindowed, hs, hp, hP, Option.map_none] using hb
    | some p =>
      have hnone : stored? b.slots p = none := by rwa [presentAtPoint, hP] at h
      rw [hP] at hp
      rw [slotsWindowed_iff_of_point hp, hs]
      exact ((slotsWindowed_iff_of_point hP).mp hb).next hnone

theorem SlotsMoves.windowed {b c : PlayoutBuffer} (h : SlotsMoves b c) (hb : SlotsWindowed b) : SlotsWindowed c := by
  induction h with
  | refl => exact hb
  | tail _ hmove ih => exact hmove.windowed ih

/-- Settles O58: every row is a chain of moves, and each move keeps the window. -/
theorem slotsKeptWindowed : Obligations.SlotsKeptWindowed := fun _ _ hs h =>
  step_keeps (Inv := fun s => ∀ l, SlotsWindowed (s.line l).buf)
    (fun s q hi l => by cases l <;> [exact hi .one; exact hi .two])
    (fun _ _ _ hi he l => SlotsMoves.windowed ((exec_slotsMoved he).line l) (hi l)) hs h

end Sys2Proof.Machine
end

section
/-! SUPPORT. What a row of the Port Link can do, said once: every command, at once or from a FIFO, is a chain of few kinds of work,
and whatever those keep, the rows keep. -/

namespace Sys2Proof.Machine

open Sys2Proof.Claim

/-! ### The kinds of work -/

/-- One work that a command can do. -/
inductive RowWork : State → State → Prop
  /-- Ports, the shared table or the queue of commands. -/
  | elsewhere {s u : State} : (∀ l, u.line l = s.line l) → u.ring = s.ring → RowWork s u
  /-- The work of a row that needs ownership. -/
  | owned {p : Port} {w : Line → State → Answer} : OwnerWork p w → ∀ l s, RowWork s (w l s).state
  | claimed (p : Port) (l : Line) (s : State) : RowWork s (changeOwner l (some p) s)
  | cleared (l : Line) (f : ChannelCounters → ChannelCounters) (s : State) : RowWork s (s.modCtr l f)
  | deviceReset (p : Port) (s : State) : RowWork s (resetDevice p s)

/-- A chain of works. -/
abbrev RowWorks : State → State → Prop := Relation.ReflTransGen RowWork

/-- What every work keeps, a chain of works keeps. -/
theorem RowWorks.keeps {Inv : State → Prop} (hwork : ∀ s u, RowWork s u → Inv s → Inv u) {s u : State}
    (h : RowWorks s u) (hs : Inv s) : Inv u := by
  induction h with
  | refl => exact hs
  | tail _ hstep ih => exact hwork _ _ hstep ih

theorem rowWorks_ite {c : Prop} [Decidable c] {s u v : State} (h : RowWorks s u) (k : RowWorks s v) :
    RowWorks s (if c then u else v) := by
  split
  · exact h
  · exact k

/-- An accepted work leaves its own state. -/
theorem RowWorks.accepted {s t : State} (h : RowWorks s t) (data : List Byte) : RowWorks s (accept t data).state := h

theorem rowWorks_elsewhere {s u : State} (hl : ∀ l, u.line l = s.line l) (hr : u.ring = s.ring) : RowWorks s u :=
  .single (.elsewhere hl hr)

theorem rowWorks_modPort (s : State) (p : Port) (f : PortLink → PortLink) : RowWorks s (s.modPort p f) :=
  rowWorks_elsewhere (line_modPort s p f) (modPort_ring s p f)

/-! ### The execution of a command (R185) -/

/-- Work on the lines that a port owns of those a field names: none, one, or Line 1 and then Line 2. -/
theorem rowWorks_ownerCommand {p : Port} {w : Line → State → Answer} (h : OwnerWork p w) (field : Byte) (s : State) :
    RowWorks s (ownerCommand p field w s).state := by
  unfold ownerCommand
  split
  · split
    · exact .single (.owned h _ s)
    · exact .refl
  · split
    · split
      · exact .refl
      · exact .single (.owned h .one s)
      · exact .single (.owned h .two s)
      · exact .tail (.single (.owned h .one s)) (.owned h .two _)
    · exact .refl

theorem rowWorks_doClaim (p : Port) (line owner : Byte) (g : Word) (s : State) :
    RowWorks s (doClaim p line owner g s).state := by
  unfold doClaim
  split
  · unfold claimLine
    split
    · exact rowWorks_ite .refl (.single (.claimed p _ s))
    · exact .refl
  · exact .refl
  · exact .refl

theorem rowWorks_doReadLine (line : Byte) (s : State) : RowWorks s (doReadLine line s).state := by
  unfold doReadLine reportCommand
  split
  · exact .refl
  · split <;> exact .refl

theorem rowWorks_clearCounters (clear : Byte) (l : Line) (s : State) : RowWorks s (clearCounters clear l s) :=
  rowWorks_ite .refl (.single (.cleared l _ s))

theorem rowWorks_doReadCounters (line clear : Byte) (s : State) : RowWorks s (doReadCounters line clear s).state := by
  unfold doReadCounters reportCommand
  split
  · exact rowWorks_clearCounters clear _ s
  · split
    · exact (rowWorks_clearCounters clear .one s).trans (rowWorks_clearCounters clear .two _)
    · exact .refl

theorem rowWorks_doLoadCallerId (p : Port) (c : Command) (s : State) : RowWorks s (doLoadCallerIdBytes p c s).state := by
  unfold doLoadCallerIdBytes
  split
  · exact .refl
  · split
    · unfold doLoadCallerId
      split
      · exact .refl
      · exact rowWorks_ownerCommand (.loadCallerId _) _ s
    · exact .refl

theorem rowWorks_doDeviceReset (p : Port) (s : State) : RowWorks s (doDeviceReset p s).state := by
  unfold doDeviceReset
  split
  · exact .refl
  · exact .single (.deviceReset p s)

theorem rowWorks_doTablePointer (p : Port) (i : Byte) (s : State) : RowWorks s (doTablePointer p i s).state := by
  unfold doTablePointer
  split
  · exact RowWorks.accepted (rowWorks_modPort s p _) _
  · exact .refl

theorem rowWorks_writeEntry {i : Fin 80} {e0 e1 e2 e3 e4 e5 : Byte} {s t : State}
    (h : writeEntry i e0 e1 e2 e3 e4 e5 s = some t) : RowWorks s t := by
  unfold writeEntry at h
  split at h
  · obtain ⟨e, -, rfl⟩ := Option.map_eq_some_iff.mp h
    exact rowWorks_elsewhere (fun l => by cases l <;> rfl) rfl
  · cases h
    exact rowWorks_elsewhere (fun l => by cases l <;> rfl) rfl

theorem rowWorks_doTableWrite (p : Port) (e0 e1 e2 e3 e4 e5 : Byte) (s : State) :
    RowWorks s (doTableWrite p e0 e1 e2 e3 e4 e5 s).state := by
  unfold doTableWrite
  dsimp only
  split
  next h => exact RowWorks.accepted ((rowWorks_writeEntry h).trans (rowWorks_modPort _ p _)) _
  next => exact .refl

theorem rowWorks_doTableRead (p : Port) (s : State) : RowWorks s (doTableRead p s).state :=
  RowWorks.accepted (rowWorks_ite .refl (rowWorks_modPort s p _)) _

theorem rowWorks_doTableHold (p : Port) (s : State) : RowWorks s (doTableHold p s).state := by
  unfold doTableHold
  split
  · exact .refl
  · exact RowWorks.accepted (rowWorks_modPort s p _) _

theorem rowWorks_doTableEnd (p : Port) (s : State) : RowWorks s (doTableEnd p s).state := by
  unfold doTableEnd
  split
  · exact RowWorks.accepted (rowWorks_modPort s p _) _
  · exact .refl

theorem rowWorks_doReadNotices (p : Port) (s : State) : RowWorks s (doReadNotices p s).state :=
  RowWorks.accepted (rowWorks_modPort s p _) _

theorem rowWorks_doSetNoticeMask (p : Port) (m : Word) (s : State) : RowWorks s (doSetNoticeMask p m s).state :=
  RowWorks.accepted (rowWorks_modPort s p _) _

/-- The execution of every known command. -/
theorem rowWorks_run (k : CommandCode) (p : Port) (c : Command) (s : State) : RowWorks s (run k p c s).state := by
  cases k with
  | nop => exact .refl
  | readNotices => exact rowWorks_doReadNotices ..
  | setNoticeMask => exact rowWorks_doSetNoticeMask ..
  | claim => exact rowWorks_doClaim ..
  | release => exact rowWorks_ownerCommand .release ..
  | handOver => exact rowWorks_ownerCommand .handOver ..
  | readLine => exact rowWorks_doReadLine ..
  | readEvents => exact rowWorks_ownerCommand .readEvents ..
  | lineReset => exact rowWorks_ownerCommand .lineReset ..
  | deviceReset => exact rowWorks_doDeviceReset ..
  | setFeed => exact rowWorks_ownerCommand (.setFeed _) ..
  | setHookTiming => exact rowWorks_ownerCommand (.setHookTiming _) ..
  | ringStart => exact rowWorks_ownerCommand (.ringStart _) ..
  | ringStop => exact rowWorks_ownerCommand .ringStop ..
  | toneStart => exact rowWorks_ownerCommand (.toneStart _) ..
  | toneStop => exact rowWorks_ownerCommand .toneStop ..
  | loadCallerId => exact rowWorks_doLoadCallerId ..
  | channelOpen => exact rowWorks_ownerCommand (.channelOpen _ _) ..
  | channelClose => exact rowWorks_ownerCommand (.channelCloseBy _) ..
  | channelFlush => exact rowWorks_ownerCommand .channelFlush ..
  | setAbility => exact rowWorks_ownerCommand (.setAbility _) ..
  | setClass => exact rowWorks_ownerCommand (.setClass _) ..
  | agreementRestart => exact rowWorks_ownerCommand .agreementRestart ..
  | readCounters => exact rowWorks_doReadCounters ..
  | tablePointer => exact rowWorks_doTablePointer ..
  | tableWrite => exact rowWorks_doTableWrite ..
  | tableRead => exact rowWorks_doTableRead ..
  | tableHold => exact rowWorks_doTableHold ..
  | tableEnd => exact rowWorks_doTableEnd ..

theorem rowWorks_perform (p : Port) (c : Command) (s : State) : RowWorks s (perform p c s).state := by
  unfold perform
  split
  · split
    · exact rowWorks_run ..
    · exact .refl
  · exact .refl

/-! ### Issue and the FIFO (R181, R182) -/

theorem answerReply_ring (p : Port) (c : Command) (a : Answer) : (answerReply p c a).ring = a.state.ring := by
  simp [answerReply, enqueueMessage]

theorem enqueueCommand_ring (p : Port) (c : Command) (s : State) : (enqueueCommand p c s).ring = s.ring := by
  unfold enqueueCommand
  split <;> simp

theorem rowWorks_answerReply {p : Port} {c : Command} {a : Answer} {s : State} (h : RowWorks s a.state) :
    RowWorks s (answerReply p c a) := h.tail (.elsewhere (line_answerReply p c a) (answerReply_ring p c a))

/-- A command taken executes, waits or is lost. -/
theorem rowWorks_issue {p : Port} {c : Command} {act : State → Answer} {s : State} (h : RowWorks s (act s).state) :
    RowWorks s (issue p c act s) :=
  rowWorks_ite (rowWorks_answerReply h) (rowWorks_elsewhere (line_enqueueCommand p c s) (enqueueCommand_ring p c s))

/-- The commands of a FIFO that execute, one after another. -/
theorem rowWorks_drainFifo (p : Port) (n : Nat) : ∀ s : State, RowWorks s (drainFifo p n s) := by
  induction n with
  | zero => exact fun s => .refl
  | succ n ih =>
    intro s
    unfold drainFifo
    split
    next c rest _ =>
      have hexecuted : RowWorks s (answerReply p c (perform p c (s.modPort p fun q => { q with fifo := rest }))) :=
        rowWorks_answerReply ((rowWorks_modPort s p _).trans (rowWorks_perform p c _))
      exact rowWorks_ite (hexecuted.trans (ih _)) .refl
    next => exact .refl

/-! ### Every row of the Port Link -/

/-- The events of the lines, the converter and the clock, and what reaches a line as media: the rows that are no command
and no transaction of a port. -/
def lineEvent : Instr → Bool
  | .powerOnReset => true
  | .mediaTaken .. => true
  | .uplinkBoundary _ => true
  | .frameStart _ => true
  | .agreementTimeout _ => true
  | .filteredOffHookEdge _ => true
  | .filteredOnHookEdge _ => true
  | .offHookQualified _ => true
  | .hangUp _ => true
  | .interdigitExpiry _ => true
  | .overcurrentStart _ => true
  | .overcurrentEnd _ => true
  | .loopFault _ => true
  | .faultRetryExpiry _ => true
  | .feedRestored _ => true
  | .detectorBlockBoundary .. => true
  | .stepTimerExpiry _ => true
  | .startTimerExpiry => true
  | .keepWarmExpiry => true
  | .cidDone _ => true
  | .hookSample .. => true
  | .lineSample .. => true
  | _ => false

/-- Every other row is a chain of works. -/
theorem exec_rowWorks {c : Instr} {s t : State} (hc : lineEvent c = false) (h : exec c s = .next t) : RowWorks s t := by
  cases c <;> cases hc <;> cases h
  case chipSelectLow p kind => exact rowWorks_ite (rowWorks_modPort s p _) .refl
  case chipSelectHigh p clocked =>
    exact rowWorks_ite ((rowWorks_modPort s p _).trans ((rowWorks_modPort _ p _).trans (rowWorks_modPort _ p _)))
      (rowWorks_modPort s p _)
  case commandTaken p body =>
    split
    · split
      · exact rowWorks_issue (rowWorks_perform p _ s)
      · exact rowWorks_modPort s p _
    · exact .refl
  case foreignMessage p type body => exact rowWorks_ite (rowWorks_modPort s p _) .refl
  case messageSent p =>
    exact rowWorks_ite (((rowWorks_modPort s p _).trans (rowWorks_drainFifo p _ _)).trans (rowWorks_modPort _ p _)) .refl
  case unknownCommand => exact rowWorks_issue .refl
  case nop => exact rowWorks_issue .refl
  case readNotices => exact rowWorks_issue (rowWorks_doReadNotices ..)
  case setNoticeMask => exact rowWorks_issue (rowWorks_doSetNoticeMask ..)
  case claim => exact rowWorks_issue (rowWorks_doClaim ..)
  case release => exact rowWorks_issue (rowWorks_ownerCommand .release ..)
  case handOver => exact rowWorks_issue (rowWorks_ownerCommand .handOver ..)
  case readLine => exact rowWorks_issue (rowWorks_doReadLine ..)
  case readEvents => exact rowWorks_issue (rowWorks_ownerCommand .readEvents ..)
  case lineReset => exact rowWorks_issue (rowWorks_ownerCommand .lineReset ..)
  case deviceReset => exact rowWorks_issue (rowWorks_doDeviceReset ..)
  case setFeed => exact rowWorks_issue (rowWorks_ownerCommand (.setFeed _) ..)
  case setHookTiming => exact rowWorks_issue (rowWorks_ownerCommand (.setHookTiming _) ..)
  case ringStart => exact rowWorks_issue (rowWorks_ownerCommand (.ringStart _) ..)
  case ringStop => exact rowWorks_issue (rowWorks_ownerCommand .ringStop ..)
  case toneStart => exact rowWorks_issue (rowWorks_ownerCommand (.toneStart _) ..)
  case toneStop => exact rowWorks_issue (rowWorks_ownerCommand .toneStop ..)
  case loadCallerId => exact rowWorks_issue (rowWorks_doLoadCallerId ..)
  case channelOpen => exact rowWorks_issue (rowWorks_ownerCommand (.channelOpen _ _) ..)
  case channelCloseImmediate => exact rowWorks_issue (rowWorks_ownerCommand .channelClose ..)
  case channelCloseDrain => exact rowWorks_issue (rowWorks_ownerCommand .channelDrain ..)
  case channelFlush => exact rowWorks_issue (rowWorks_ownerCommand .channelFlush ..)
  case setAbility => exact rowWorks_issue (rowWorks_ownerCommand (.setAbility _) ..)
  case setClass => exact rowWorks_issue (rowWorks_ownerCommand (.setClass _) ..)
  case agreementRestart => exact rowWorks_issue (rowWorks_ownerCommand .agreementRestart ..)
  case readCounters => exact rowWorks_issue (rowWorks_doReadCounters ..)
  case tablePointer => exact rowWorks_issue (rowWorks_doTablePointer ..)
  case tableWrite => exact rowWorks_issue (rowWorks_doTableWrite ..)
  case tableRead => exact rowWorks_issue (rowWorks_doTableRead ..)
  case tableHold => exact rowWorks_issue (rowWorks_doTableHold ..)
  case tableEnd => exact rowWorks_issue (rowWorks_doTableEnd ..)

end Sys2Proof.Machine
end

section
/-! SUPPORT. Safe ringing, line by line: what a line's supervision and feed owe to its cadence, what the arbiter and the
transmitter owe to it, and the states in which one line stands apart from the arbiter (R103, R151, R152, R169). -/

namespace Sys2Proof.Machine

open Sys2Proof.Claim Sys2Proof.Safety

/-! ### A sound line -/

/-- Supervision and feed fit the cadence. -/
structure FeedFits (x : LineState) : Prop where
  ringing : x.cad.kind = .ring → x.sup.state = .onHook ∧ fullFeed x.sup.feed = true
  unfed : x.sup.feed = .off → x.sup.state = .down
  retrying : x.sup.retryTimer.isSome = true → x.sup.feed ≠ .off

/-- The arbiter and the transmitter fit the cadence of line `l`. -/
structure RingFits (l : Line) (a : RingArbiter) (x : LineState) : Prop where
  driven : a.converter = .driving l → x.cad.kind = .ring ∧ l ∉ a.waitList
  waiting : l ∈ a.waitList → x.cad.kind = .ring ∧ x.cad.timer = none
  sending : x.cid.state ≠ .idle →
    x.cad.kind = .ring ∧ x.cad.timer = none ∧ a.converter ≠ .driving l ∧ l ∉ a.waitList

/-- The invariant of safe ringing, line by line. -/
structure SafeRinging (s : State) : Prop where
  nodup : s.ring.waitList.Nodup
  feed : ∀ l, FeedFits (s.line l)
  fits : ∀ l, RingFits l s.ring (s.line l)

theorem ringSound_iff (s : State) : RingSound s ↔ SafeRinging s := by
  constructor
  · rintro ⟨hn, h⟩
    refine ⟨hn, fun l => ?_, fun l => ?_⟩ <;> obtain ⟨h1, h2, h3, h4, h5, h6⟩ := h l
    · exact ⟨h1, h2, h3⟩
    · exact ⟨h4, h5, h6⟩
  · exact fun h => ⟨h.nodup, fun l =>
      ⟨(h.feed l).ringing, (h.feed l).unfed, (h.feed l).retrying, (h.fits l).driven, (h.fits l).waiting,
        (h.fits l).sending⟩⟩

/-- A fed line is not DOWN by its feed: feed OFF leaves no other state. -/
theorem FeedFits.fed {x : LineState} (h : FeedFits x) (hs : x.sup.state ≠ .down) : x.sup.feed ≠ .off := mt h.unfed hs

/-- A line that is not ON_HOOK has no ring cadence. -/
theorem FeedFits.notRinging {x : LineState} (h : FeedFits x) (hs : x.sup.state ≠ .onHook) : x.cad.kind ≠ .ring :=
  fun hk => hs (h.ringing hk).1

/-- Line `l` is neither driven nor waiting. -/
def Away (l : Line) (a : RingArbiter) : Prop := a.converter ≠ .driving l ∧ l ∉ a.waitList

theorem RingFits.away {l : Line} {a : RingArbiter} {x : LineState} (h : RingFits l a x) (hk : x.cad.kind ≠ .ring) :
    Away l a ∧ x.cid.state = .idle :=
  ⟨⟨fun hd => hk (h.driven hd).1, fun hw => hk (h.waiting hw).1⟩, by_contra fun hx => hk (h.sending hx).1⟩

/-- Nothing is asked of an idle line that is neither driven nor waiting. -/
theorem ringFits_of_away {l : Line} {a : RingArbiter} {x : LineState} (h : Away l a) (hx : x.cid.state = .idle) :
    RingFits l a x :=
  ⟨fun hd => absurd hd h.1, fun hw => absurd hw h.2, fun hs => absurd hx hs⟩

/-! ### States that ring alike -/

/-- `y` is to the invariant what `x` is: the same cadence kind, step timer, supervision, feed and retry, and no transmission
begun. -/
structure LineAlike (x y : LineState) : Prop where
  kind : y.cad.kind = x.cad.kind
  timer : y.cad.timer = x.cad.timer
  state : y.sup.state = x.sup.state
  feed : y.sup.feed = x.sup.feed
  retry : y.sup.retryTimer = x.sup.retryTimer
  sending : y.cid.state ≠ .idle → x.cid.state ≠ .idle

theorem LineAlike.refl (x : LineState) : LineAlike x x := ⟨rfl, rfl, rfl, rfl, rfl, id⟩

theorem LineAlike.trans {x y z : LineState} (h : LineAlike x y) (k : LineAlike y z) : LineAlike x z :=
  ⟨k.kind.trans h.kind, k.timer.trans h.timer, k.state.trans h.state, k.feed.trans h.feed, k.retry.trans h.retry,
    h.sending ∘ k.sending⟩

/-- The wait list is the same, and no line is driven that was not. -/
structure ArbiterAlike (a b : RingArbiter) : Prop where
  waitList : b.waitList = a.waitList
  driven : ∀ l, b.converter = .driving l → a.converter = .driving l

theorem ArbiterAlike.refl (a : RingArbiter) : ArbiterAlike a a := ⟨rfl, fun _ => id⟩

theorem ArbiterAlike.of_eq {a b : RingArbiter} (h : b = a) : ArbiterAlike a b := h ▸ .refl a

theorem ArbiterAlike.trans {a b c : RingArbiter} (h : ArbiterAlike a b) (k : ArbiterAlike b c) : ArbiterAlike a c :=
  ⟨k.waitList.trans h.waitList, fun l hd => h.driven l (k.driven l hd)⟩

/-- From `s` to `u` every line and the arbiter ring alike. -/
structure RingsAlike (s u : State) : Prop where
  ring : ArbiterAlike s.ring u.ring
  lines : ∀ l, LineAlike (s.line l) (u.line l)

theorem RingsAlike.refl (s : State) : RingsAlike s s := ⟨.refl _, fun _ => .refl _⟩

theorem RingsAlike.trans {s t u : State} (h : RingsAlike s t) (k : RingsAlike t u) : RingsAlike s u :=
  ⟨h.ring.trans k.ring, fun l => (h.lines l).trans (k.lines l)⟩

theorem ringsAlike_ite {c : Prop} [Decidable c] {s u v : State} (h : RingsAlike s u) (k : RingsAlike s v) :
    RingsAlike s (if c then u else v) := by
  split
  · exact h
  · exact k

/-- An accepted work leaves its own state. -/
theorem RingsAlike.accepted {s t : State} (h : RingsAlike s t) (data : List Byte) : RingsAlike s (accept t data).state := h

theorem ringsAlike_elsewhere {s u : State} (hl : ∀ l, u.line l = s.line l) (hr : ArbiterAlike s.ring u.ring) :
    RingsAlike s u := ⟨hr, fun l => by rw [hl]; exact .refl _⟩

theorem ringsAlike_modPort (s : State) (p : Port) (f : PortLink → PortLink) : RingsAlike s (s.modPort p f) :=
  ringsAlike_elsewhere (line_modPort s p f) (.of_eq (modPort_ring s p f))

/-- Work on one line and the ports rings alike where that line does. -/
theorem ringsAlike_of_elseSame {l : Line} {s u : State} (h : ElseSame l s u) (hl : LineAlike (s.line l) (u.line l)) :
    RingsAlike s u where
  ring := .of_eq h.2.1
  lines m := by
    by_cases hm : m = l
    · subst hm; exact hl
    · rw [eq_otherLine hm, h.1]; exact .refl _

theorem LineWork.ringsAlike {l : Line} {s u : State} (h : LineWork l s u) (hl : LineAlike (s.line l) (u.line l)) :
    RingsAlike s u := ringsAlike_of_elseSame h.elsewhere hl

theorem ringsAlike_modLine {s : State} {l : Line} {f : LineState → LineState} (h : LineAlike (s.line l) (f (s.line l))) :
    RingsAlike s (s.modLine l f) := (lineWork_modLine l f s).ringsAlike (by rw [line_modLine_same]; exact h)

theorem LineAlike.feedFits {x y : LineState} (h : LineAlike x y) (hx : FeedFits x) : FeedFits y where
  ringing := by rw [h.kind, h.state, h.feed]; exact hx.ringing
  unfed := by rw [h.state, h.feed]; exact hx.unfed
  retrying := by rw [h.retry, h.feed]; exact hx.retrying

/-- A line whose cadence kind and timer are the same, and which begins no transmission, still fits a like arbiter. -/
theorem RingFits.alike {l : Line} {a b : RingArbiter} {x y : LineState} (h : RingFits l a x) (hab : ArbiterAlike a b)
    (hk : y.cad.kind = x.cad.kind) (ht : y.cad.timer = x.cad.timer) (hs : y.cid.state ≠ .idle → x.cid.state ≠ .idle) :
    RingFits l b y where
  driven hd := by rw [hk, hab.waitList]; exact h.driven (hab.driven l hd)
  waiting hw := by rw [hk, ht]; exact h.waiting (hab.waitList ▸ hw)
  sending hx := by
    obtain ⟨h1, h2, h3, h4⟩ := h.sending (hs hx)
    rw [hk, ht, hab.waitList]
    exact ⟨h1, h2, fun hd => h3 (hab.driven l hd), h4⟩

/-- What rings alike is as sound. -/
theorem RingsAlike.sound {s u : State} (h : RingsAlike s u) (hs : SafeRinging s) : SafeRinging u := by
  refine ⟨by rw [h.ring.waitList]; exact hs.nodup, fun l => (h.lines l).feedFits (hs.feed l), fun l => ?_⟩
  have hl := h.lines l
  exact (hs.fits l).alike h.ring hl.kind hl.timer hl.sending

/-! ### Work beside the other line -/

/-- From `s` to `u` the other line is the same and the arbiter alike. -/
structure Beside (l : Line) (s u : State) : Prop where
  other : u.line (otherLine l) = s.line (otherLine l)
  ring : ArbiterAlike s.ring u.ring

theorem Beside.refl (l : Line) (s : State) : Beside l s s := ⟨rfl, .refl _⟩

theorem Beside.trans {l : Line} {s t u : State} (h : Beside l s t) (k : Beside l t u) : Beside l s u :=
  ⟨k.other.trans h.other, h.ring.trans k.ring⟩

theorem beside_ite {c : Prop} [Decidable c] {l : Line} {s u v : State} (h : Beside l s u) (k : Beside l s v) :
    Beside l s (if c then u else v) := by
  split
  · exact h
  · exact k

theorem LineWork.beside {l : Line} {s u : State} (h : LineWork l s u) : Beside l s u := ⟨h.other, .of_eq h.ring⟩

/-- Work beside the other line that leaves the line's own cadence and transmitter keeps safe ringing where its supervision
still fits. -/
theorem Beside.sound {l : Line} {s u : State} (h : Beside l s u) (hs : SafeRinging s)
    (hc : (u.line l).cad = (s.line l).cad) (hx : (u.line l).cid.state = (s.line l).cid.state)
    (hf : FeedFits (u.line l)) : SafeRinging u := by
  have hline (m : Line) : FeedFits (u.line m) ∧ RingFits m u.ring (u.line m) := by
    by_cases hm : m = l
    · subst hm
      exact ⟨hf, (hs.fits m).alike h.ring (by rw [hc]) (by rw [hc]) (by rw [hx]; exact id)⟩
    · rw [eq_otherLine hm, h.other]
      exact ⟨hs.feed _, (hs.fits _).alike h.ring rfl rfl id⟩
  exact ⟨by rw [h.ring.waitList]; exact hs.nodup, fun m => (hline m).1, fun m => (hline m).2⟩

/-- All but line `l` is sound, and line `l` is neither driven nor waiting: it may now change in any way. -/
structure Apart (l : Line) (s : State) : Prop where
  nodup : s.ring.waitList.Nodup
  feed : FeedFits (s.line (otherLine l))
  fits : RingFits (otherLine l) s.ring (s.line (otherLine l))
  away : Away l s.ring

theorem SafeRinging.apart {l : Line} {s : State} (h : SafeRinging s) (ha : Away l s.ring) : Apart l s :=
  ⟨h.nodup, h.feed _, h.fits _, ha⟩

theorem Apart.beside {l : Line} {s u : State} (h : Apart l s) (k : Beside l s u) : Apart l u where
  nodup := by rw [k.ring.waitList]; exact h.nodup
  feed := by rw [k.other]; exact h.feed
  fits := by rw [k.other]; exact h.fits.alike k.ring rfl rfl id
  away := ⟨fun hd => h.away.1 (k.ring.driven l hd), by rw [k.ring.waitList]; exact h.away.2⟩

/-- A line that stands apart, fits its feed and sends only between its bursts completes a sound state. -/
theorem Apart.sound_of {l : Line} {s : State} (h : Apart l s) (hf : FeedFits (s.line l))
    (hx : (s.line l).cid.state ≠ .idle → (s.line l).cad.kind = .ring ∧ (s.line l).cad.timer = none) : SafeRinging s := by
  have hline (m : Line) : FeedFits (s.line m) ∧ RingFits m s.ring (s.line m) := by
    by_cases hm : m = l
    · subst hm
      exact ⟨hf, fun hd => absurd hd h.away.1, fun hw => absurd hw h.away.2,
        fun hs => ⟨(hx hs).1, (hx hs).2, h.away.1, h.away.2⟩⟩
    · rw [eq_otherLine hm]
      exact ⟨h.feed, h.fits⟩
  exact ⟨h.nodup, fun m => (hline m).1, fun m => (hline m).2⟩

theorem Apart.sound {l : Line} {s : State} (h : Apart l s) (hf : FeedFits (s.line l)) (hx : (s.line l).cid.state = .idle) :
    SafeRinging s := h.sound_of hf fun hs => absurd hx hs

/-! ### The arbiter (R150 to R162) -/

theorem arbiterAlike_judgeFeeds (s : State) : ArbiterAlike s.ring (judgeFeeds s).ring := by
  rcases judgeFeeds_cases s with ⟨-, h⟩ | ⟨-, h⟩ <;> rw [h] <;> exact ⟨rfl, nofun⟩

theorem arbiterAlike_judgeLastEnd (s : State) : ArbiterAlike s.ring (judgeLastEnd s).ring := by
  rcases judgeLastEnd_cases s with h | h <;> rw [h]
  · exact (arbiterAlike_judgeFeeds s).trans ⟨rfl, fun _ => id⟩
  · exact .refl _

theorem ringsAlike_judgeKeepWarm (s : State) : RingsAlike s (judgeKeepWarm s) := by
  refine ringsAlike_elsewhere (line_judgeKeepWarm s) ?_
  rcases judgeKeepWarm_cases s with h | h <;> rw [h]
  · exact arbiterAlike_judgeFeeds s
  · exact .refl _

theorem beside_feedChanged (l : Line) (s : State) : Beside l s (feedChanged s) := by
  refine ⟨line_feedChanged s _, ?_⟩
  rcases feedChanged_cases s with ⟨-, h⟩ | ⟨-, -, -, h⟩ | ⟨-, h⟩ <;> rw [h]
  · exact arbiterAlike_judgeFeeds s
  · exact ⟨rfl, nofun⟩
  · exact .refl _

theorem beside_endCadence (l : Line) (s : State) : Beside l s (endCadence l s) := by
  refine ⟨line_endCadence_other l s, ?_⟩
  have hring := ArbiterAlike.of_eq (modCad_ring s l endedEngine)
  unfold endCadence
  dsimp only
  split
  · exact hring.trans (arbiterAlike_judgeLastEnd _)
  · exact hring

/-- A grant takes the head of the wait list, or does nothing. -/
theorem grantHead_cases (s : State) :
    (∃ k ks, s.ring.waitList = k :: ks
      ∧ (grantHead s).ring = { s.ring with converter := .driving k, waitList := ks, keepWarm := none }
      ∧ ∀ m, (grantHead s).line m = if m = k then granted (s.line m) else s.line m)
    ∨ grantHead s = s := by
  unfold grantHead
  split
  next k ks hc hw =>
    refine .inl ⟨k, ks, hw, by rw [modLine_ring, modRing_ring], fun m => ?_⟩
    rw [line_modLine, line_modRing]
    rfl
  next => exact .inr rfl

theorem nodup_grantHead {s : State} (h : s.ring.waitList.Nodup) : (grantHead s).ring.waitList.Nodup := by
  obtain ⟨k, ks, hw, hr, -⟩ | he := grantHead_cases s
  · rw [hr]
    exact (List.nodup_cons.mp (hw ▸ h)).2
  · rw [he]
    exact h

theorem feedFits_grantHead {s : State} {m : Line} (h : FeedFits (s.line m)) : FeedFits ((grantHead s).line m) := by
  obtain ⟨k, ks, -, -, hl⟩ | he := grantHead_cases s
  · rw [hl]
    split
    · exact ⟨h.ringing, h.unfed, h.retrying⟩
    · exact h
  · rw [he]
    exact h

/-- Whoever is granted was waiting, so it has a ring cadence and sends nothing; the others wait on. -/
theorem ringFits_grantHead {s : State} {m : Line} (hn : s.ring.waitList.Nodup) (h : RingFits m s.ring (s.line m)) :
    RingFits m (grantHead s).ring ((grantHead s).line m) := by
  obtain ⟨k, ks, hw, hr, hl⟩ | he := grantHead_cases s
  · have hmem : m ∈ s.ring.waitList ↔ m = k ∨ m ∈ ks := by rw [hw, List.mem_cons]
    have hk : k ∉ ks := (List.nodup_cons.mp (hw ▸ hn)).1
    rw [hr, hl]
    split
    next hm =>
      subst hm
      exact ⟨fun _ => ⟨(h.waiting (hmem.mpr (.inl rfl))).1, hk⟩, fun hin => absurd hin hk,
        fun hx => absurd (hmem.mpr (.inl rfl)) (h.sending hx).2.2.2⟩
    next hm =>
      have hnot (hd : Converter.driving k = .driving m) : False := hm (by injection hd with hd; exact hd.symm)
      refine ⟨fun hd => (hnot hd).elim, fun hin => h.waiting (hmem.mpr (.inr hin)), fun hx => ?_⟩
      obtain ⟨h1, h2, -, h4⟩ := h.sending hx
      exact ⟨h1, h2, hnot, fun hin => h4 (hmem.mpr (.inr hin))⟩
  · rw [he]
    exact h

theorem away_grantHead {s : State} {l : Line} (h : Away l s.ring) : Away l (grantHead s).ring := by
  obtain ⟨k, ks, hw, hr, -⟩ | he := grantHead_cases s
  · have hl := h.2
    rw [hw, List.mem_cons, not_or] at hl
    rw [hr]
    exact ⟨fun hd => hl.1 (by injection hd with hd; exact hd.symm), hl.2⟩
  · rw [he]
    exact h

theorem safeRinging_grantHead {s : State} (h : SafeRinging s) : SafeRinging (grantHead s) :=
  ⟨nodup_grantHead h.nodup, fun l => feedFits_grantHead (h.feed l), fun l => ringFits_grantHead h.nodup (h.fits l)⟩

theorem Apart.grantHead {l : Line} {s : State} (h : Apart l s) : Apart l (grantHead s) :=
  ⟨nodup_grantHead h.nodup, feedFits_grantHead h.feed, ringFits_grantHead h.nodup h.fits, away_grantHead h.away⟩

/-- The state in which line `l` has joined the tail of the wait list. -/
def joinedTail (l : Line) (s : State) : State := s.modRing fun a => { a with waitList := a.waitList ++ [l] }

theorem safeRinging_joinedTail {l : Line} {s : State} (h : SafeRinging s) (ha : Away l s.ring)
    (hk : (s.line l).cad.kind = .ring) (ht : (s.line l).cad.timer = none) (hx : (s.line l).cid.state = .idle) :
    SafeRinging (joinedTail l s) := by
  refine ⟨?_, fun m => by rw [joinedTail, line_modRing]; exact h.feed m, fun m => ?_⟩
  · exact List.nodup_append.mpr ⟨h.nodup, List.nodup_singleton l, fun a hin b hb he =>
      ha.2 (by rw [← List.mem_singleton.mp hb, ← he]; exact hin)⟩
  rw [joinedTail, line_modRing, modRing_ring]
  by_cases hm : m = l
  · subst hm
    exact ⟨fun hd => absurd hd ha.1, fun _ => ⟨hk, ht⟩, fun hs => absurd hx hs⟩
  · have hmem : m ∈ s.ring.waitList ++ [l] ↔ m ∈ s.ring.waitList := by simp [hm]
    have hfits := h.fits m
    exact ⟨fun hd => ⟨(hfits.driven hd).1, mt hmem.mp (hfits.driven hd).2⟩, fun hin => hfits.waiting (hmem.mp hin),
      fun hs => have ⟨h1, h2, h3, h4⟩ := hfits.sending hs; ⟨h1, h2, h3, mt hmem.mp h4⟩⟩

/-- A request of a line with a ring cadence is a join, and then a start, a grant or nothing (R150). -/
theorem safeRinging_ringRequest {l : Line} {s : State} (h : SafeRinging s) (ha : Away l s.ring)
    (hk : (s.line l).cad.kind = .ring) (ht : (s.line l).cad.timer = none) (hx : (s.line l).cid.state = .idle) :
    SafeRinging (ringRequest l s) := by
  have hjoined := safeRinging_joinedTail h ha hk ht hx
  have hstart : RingsAlike (joinedTail l s) ((joinedTail l s).modRing fun a =>
      { a with converter := .starting, startTimer := some 0 }) := ringsAlike_elsewhere (line_modRing _ _) ⟨rfl, nofun⟩
  have hcold : RingsAlike (joinedTail l s) ((joinedTail l s).modRing fun a => { a with keepWarm := none }) :=
    ringsAlike_elsewhere (line_modRing _ _) ⟨rfl, fun _ => id⟩
  unfold ringRequest
  dsimp only
  split
  · exact hstart.sound hjoined
  · exact hjoined
  · exact safeRinging_grantHead (hcold.sound hjoined)
  · exact hjoined

/-- After the end of its ringing a line stands apart, though its own supervision may have been unfit. -/
theorem apart_endRinging {l : Line} {s : State} (g : Bool) (hn : s.ring.waitList.Nodup) (hl : ListSound l s)
    (hf : FeedFits (s.line (otherLine l))) (hr : RingFits (otherLine l) s.ring (s.line (otherLine l))) :
    Apart l (endRinging g l s) := by
  by_cases hd : s.ring.converter = .driving l
  · have hready : Apart l (s.modRing fun a => { a with converter := .ready }) := by
      refine ⟨hn, by rw [line_modRing]; exact hf, ?_, nofun, hl hd⟩
      rw [line_modRing]
      exact hr.alike ⟨rfl, nofun⟩ rfl rfl id
    rw [endRinging, if_pos hd]
    cases g with
    | false => exact hready
    | true => exact hready.grantHead
  · rw [endRinging_waiting hd]
    have hmem : otherLine l ∈ s.ring.waitList.filter (fun m => decide (m ≠ l)) ↔ otherLine l ∈ s.ring.waitList := by
      simp
    refine ⟨hn.filter _, by rw [line_modRing]; exact hf, ?_, hd, by simp⟩
    rw [line_modRing]
    exact ⟨fun hdo => ⟨(hr.driven hdo).1, mt hmem.mp (hr.driven hdo).2⟩, fun hin => hr.waiting (hmem.mp hin),
      fun hs => have ⟨h1, h2, h3, h4⟩ := hr.sending hs; ⟨h1, h2, h3, mt hmem.mp h4⟩⟩

end Sys2Proof.Machine
end

section
/-! SUPPORT. Work that leaves ringing alone: events, detectors, the Media Channel with its mode agreement and its owner, and the
rows that do nothing else. -/

namespace Sys2Proof.Machine

open Sys2Proof.Claim

/-! ### Events and detectors (R13 to R15, R116 to R127) -/

theorem ringsAlike_modCtr (s : State) (l : Line) (f : ChannelCounters → ChannelCounters) : RingsAlike s (s.modCtr l f) :=
  ringsAlike_modLine ⟨rfl, rfl, rfl, rfl, rfl, id⟩

theorem ringsAlike_modChan (s : State) (l : Line) (f : MediaChannel → MediaChannel) : RingsAlike s (s.modChan l f) :=
  ringsAlike_modLine ⟨rfl, rfl, rfl, rfl, rfl, id⟩

theorem ringsAlike_latchOwner (l : Line) (n : Notice) (s : State) : RingsAlike s (latchOwner l n s) :=
  ringsAlike_elsewhere (fun m => line_latchOwner l m n s) (.of_eq (latchOwner_ring l n s))

theorem ringsAlike_storePlain (l : Line) (k : EventKind) (v : Byte) (d : Nat) (s : State) :
    RingsAlike s (storePlain l k v d s) :=
  (lineWork_storePlain l k v d s).ringsAlike (by rw [line_storePlain_same]; exact ⟨rfl, rfl, rfl, rfl, rfl, id⟩)

theorem ringsAlike_emit (l : Line) (k : EventKind) (v : Byte) (d : Nat) (t : Bool) (s : State) :
    RingsAlike s (emit l k v d t s) :=
  (lineWork_emit l k v d t s).ringsAlike (by rw [line_emit_same]; exact ⟨rfl, rfl, rfl, rfl, rfl, id⟩)

theorem ringsAlike_followDetectors (l : Line) (s : State) : RingsAlike s (followDetectors l s) := by
  refine (lineWork_followDetectors l s).ringsAlike ?_
  obtain ⟨es, hes⟩ := line_followDetectors l s
  rw [hes]
  exact ⟨rfl, rfl, rfl, rfl, rfl, id⟩

theorem ringsAlike_upspeed (l : Line) (t : UpspeedTrigger) (s : State) : RingsAlike s (upspeed l t s) := by
  refine (lineWork_upspeed l t s).ringsAlike ?_
  obtain ⟨c, k, h⟩ := upsped_kept t (s.line l)
  rw [line_upspeed, h]
  exact ⟨rfl, rfl, rfl, rfl, rfl, id⟩

theorem ringsAlike_applyFindings (l : Line) (fs : List Finding) : ∀ s : State, RingsAlike s (applyFindings l fs s) := by
  induction fs with
  | nil => exact fun s => .refl s
  | cons f fs ih =>
    intro s
    refine .trans ?_ (ih (applyFinding l s f))
    unfold applyFinding
    cases f.trigger with
    | some k => exact (ringsAlike_upspeed l k s).trans (ringsAlike_storePlain ..)
    | none => exact ringsAlike_storePlain ..

theorem ringsAlike_judgeReadings (l : Line) (a b : BlockReading) (s : State) : RingsAlike s (judgeReadings l a b s) :=
  .trans (ringsAlike_modLine ⟨rfl, rfl, rfl, rfl, rfl, id⟩) (ringsAlike_applyFindings l _ _)

/-! ### Mode agreement (R36 to R49) -/

theorem ringsAlike_restartAgreement (l : Line) (s : State) : RingsAlike s (restartAgreement l s) :=
  (lineWork_restartAgreement l s).ringsAlike (by rw [line_restartAgreement]; exact ⟨rfl, rfl, rfl, rfl, rfl, id⟩)

theorem ringsAlike_enterPresumed (l : Line) (f : MediaChannel → MediaChannel) (s : State) :
    RingsAlike s (enterPresumed l f s) :=
  (lineWork_enterPresumed l f s).ringsAlike (by rw [line_enterPresumed]; exact ⟨rfl, rfl, rfl, rfl, rfl, id⟩)

theorem ringsAlike_examineFrame (l : Line) (w : Option ModeWord) (s : State) : RingsAlike s (examineFrame l w s) := by
  cases w with
  | some w =>
    refine (lineWork_receiveWord l w s).ringsAlike ?_
    obtain ⟨c, k, h⟩ := line_receiveWord l w s
    rw [h]
    exact ⟨rfl, rfl, rfl, rfl, rfl, id⟩
  | none =>
    obtain h | ⟨-, h⟩ | h := receiveBare_cases l s <;> rw [examineFrame, h]
    · exact .refl s
    · exact ringsAlike_modChan ..
    · exact (ringsAlike_modChan ..).trans (ringsAlike_enterPresumed ..)

/-! ### The Media Channel and its owner (R8 to R12, R24 to R31, R53 to R68) -/

theorem ringsAlike_changeOwner (l : Line) (new : Option Port) (s : State) : RingsAlike s (changeOwner l new s) := by
  refine ringsAlike_of_elseSame ((elseSame_leftState l new s).trans (lineWork_changeOwner l new s).elsewhere) ?_
  rw [line_changeOwner]
  unfold channelChanged
  split <;> exact ⟨rfl, rfl, rfl, rfl, rfl, id⟩

theorem ringsAlike_closeNow (l : Line) (s : State) : RingsAlike s (closeNow l s) :=
  (ringsAlike_modLine (f := closeLine) ⟨rfl, rfl, rfl, rfl, rfl, id⟩).trans (ringsAlike_followDetectors l _)

theorem ringsAlike_closeOnLine (l : Line) (s : State) : RingsAlike s (closeOnLine l s).state := by
  unfold closeOnLine
  split
  · exact .refl s
  · exact ringsAlike_closeNow l s

theorem ringsAlike_drainOnLine (l : Line) (s : State) : RingsAlike s (drainOnLine l s).state := by
  unfold drainOnLine
  split
  · exact .refl s
  · exact .refl s
  · exact ringsAlike_modLine (f := drainLine) ⟨rfl, rfl, rfl, rfl, rfl, id⟩

theorem ringsAlike_closeByOption (option : Byte) (l : Line) (s : State) : RingsAlike s (closeByOption option l s).state := by
  unfold closeByOption
  split
  · exact ringsAlike_closeOnLine l s
  · split
    · exact ringsAlike_drainOnLine l s
    · split <;> exact .refl s

theorem ringsAlike_openOnLine (ability : Byte) (q : ChannelParams) (l : Line) (s : State) :
    RingsAlike s (openOnLine ability q l s).state := by
  unfold openOnLine
  split
  · exact .refl s
  · split
    · exact RingsAlike.accepted ((ringsAlike_modLine (f := openLine q _) ⟨rfl, rfl, rfl, rfl, rfl, id⟩).trans
        (ringsAlike_followDetectors l _)) _
    · exact .refl s

theorem ringsAlike_flushOnLine (l : Line) (s : State) : RingsAlike s (flushOnLine l s).state := by
  unfold flushOnLine
  split
  · exact .refl s
  · exact RingsAlike.accepted (ringsAlike_modLine ⟨rfl, rfl, rfl, rfl, rfl, id⟩) _

theorem ringsAlike_abilityOnLine (ability : Byte) (l : Line) (s : State) :
    RingsAlike s (abilityOnLine ability l s).state := by
  unfold abilityOnLine
  dsimp only
  split
  · exact .refl s
  · split
    · exact .refl s
    · split
      · exact RingsAlike.accepted (ringsAlike_modChan s l _) _
      · exact .refl s

theorem ringsAlike_classOnLine (mediaClass : Byte) (l : Line) (s : State) :
    RingsAlike s (classOnLine mediaClass l s).state := by
  unfold classOnLine
  split
  · exact .refl s
  · split
    · exact (ringsAlike_modChan s l _).trans (ringsAlike_restartAgreement l _)
    · exact .refl s

theorem ringsAlike_restartOnLine (l : Line) (s : State) : RingsAlike s (restartOnLine l s).state := by
  unfold restartOnLine
  split
  · exact .refl s
  · exact ringsAlike_restartAgreement l s

theorem ringsAlike_makeRoom (p : Port) (s : State) : RingsAlike s (makeRoom p s) := by
  refine ringsAlike_ite (.refl s) ?_
  dsimp only
  split
  · exact (ringsAlike_modPort s p _).trans (ringsAlike_modCtr _ _ _)
  · exact ringsAlike_modPort s p _

theorem ringsAlike_routeUplink (l : Line) (f : MediaFrame) (s : State) : RingsAlike s (routeUplink l f s) := by
  unfold routeUplink
  split
  · exact (ringsAlike_makeRoom _ s).trans ((ringsAlike_modPort _ _ _).trans (ringsAlike_modCtr _ l _))
  · exact ringsAlike_modCtr s l _

theorem lineAlike_startPeriod (x : LineState) : LineAlike x (startPeriod x).1 := by
  obtain h | ⟨-, y, hy, h⟩ := startPeriod_cases x
  · rw [h.only]
    exact ⟨rfl, rfl, rfl, rfl, rfl, id⟩
  · rw [h, hy.only]
    exact ⟨rfl, rfl, rfl, rfl, rfl, id⟩

theorem ringsAlike_beginPeriod (l : Line) (s : State) : RingsAlike s (beginPeriod l s) := by
  have hstart : RingsAlike s (s.modLine l fun _ => (startPeriod (s.line l)).1) :=
    ringsAlike_modLine (lineAlike_startPeriod _)
  have hnotice := ringsAlike_ite (c := (startPeriod (s.line l)).2 = true)
    (hstart.trans (ringsAlike_latchOwner l (.playoutAlert l) _)) hstart
  exact ringsAlike_ite (hnotice.trans (ringsAlike_followDetectors l _)) hnotice

theorem ringsAlike_deliverFrame (l : Line) (r : FrameRecord) (s : State) : RingsAlike s (deliverFrame l r s) := by
  refine (lineWork_deliverFrame l r s).ringsAlike ?_
  obtain ⟨b, t, k, h, -⟩ := line_deliverFrame l r s
  rw [h]
  exact ⟨rfl, rfl, rfl, rfl, rfl, id⟩

theorem ringsAlike_routeFrame (p : Port) (f : MediaFrame) (s : State) : RingsAlike s (routeFrame p f s) :=
  ringsAlike_ite (ringsAlike_ite ((ringsAlike_examineFrame f.line f.word s).trans (ringsAlike_deliverFrame ..))
    (ringsAlike_modCtr s _ _)) (ringsAlike_modCtr s _ _)

/-! ### Supervision that is no change of state (R100, R101, R108 to R113) -/

/-- A change of a supervisor beside its state, feed and retry timer. -/
theorem ringsAlike_modSup {s : State} {l : Line} {f : Supervisor → Supervisor}
    (hs : (f (s.line l).sup).state = (s.line l).sup.state) (hf : (f (s.line l).sup).feed = (s.line l).sup.feed)
    (hr : (f (s.line l).sup).retryTimer = (s.line l).sup.retryTimer) : RingsAlike s (s.modSup l f) :=
  ringsAlike_modLine ⟨rfl, rfl, hs, hf, hr, id⟩

theorem ringsAlike_timingOnLine (t : HookTiming) (l : Line) (s : State) : RingsAlike s (timingOnLine t l s).state := by
  unfold timingOnLine
  split
  · exact RingsAlike.accepted (ringsAlike_modSup rfl rfl rfl) _
  · exact .refl s

theorem ringsAlike_eventsOnLine (l : Line) (s : State) : RingsAlike s (eventsOnLine l s).state :=
  RingsAlike.accepted (ringsAlike_modLine ⟨rfl, rfl, rfl, rfl, rfl, id⟩) _

theorem ringsAlike_loadOnLine (f : CallerFields) (l : Line) (s : State) : RingsAlike s (loadOnLine f l s).state := by
  unfold loadOnLine
  dsimp only
  split
  · exact .refl s
  · split
    · exact RingsAlike.accepted (ringsAlike_modLine ⟨rfl, rfl, rfl, rfl, rfl, id⟩) _
    · exact .refl s

theorem ringsAlike_emitDigit (l : Line) (s : State) : RingsAlike s (emitDigit l s) := by
  refine (lineWork_emitDigit l s).ringsAlike ?_
  obtain ⟨es, c, h⟩ := line_emitDigit l s
  rw [h]
  exact ⟨rfl, rfl, rfl, rfl, rfl, id⟩

theorem ringsAlike_closeSeries (l : Line) (s : State) : RingsAlike s (closeSeries l s) :=
  .trans (ringsAlike_modSup rfl rfl rfl) (ringsAlike_emit ..)

/-! ### The line sample (R13, R147, R168) -/

theorem toneAdvance_kept (c : CadenceEngine) : (toneAdvance c).kind = c.kind ∧ (toneAdvance c).timer = c.timer := by
  unfold toneAdvance
  split <;> exact ⟨rfl, rfl⟩

theorem lineAlike_lineSampled (tick : Nat) (rx : Sample) (x : LineState) : LineAlike x (lineSampled tick rx x) := by
  refine ⟨(toneAdvance_kept x.cad).1, (toneAdvance_kept x.cad).2, rfl, rfl, rfl, fun hs => ?_⟩
  contrapose! hs
  show (if fskSounds x.cid then fskAdvance x.cid else x.cid).state = .idle
  rw [fskSounds_idle hs]
  exact hs

theorem arbiterAlike_passed {a : RingArbiter} {s : State} (h : ArbiterAlike a s.ring) :
    ArbiterAlike a (passBlock (passMillisecond s)).ring := by
  have hms : ArbiterAlike a (passMillisecond s).ring := by
    unfold passMillisecond
    split
    · exact h.trans ⟨rfl, fun _ => id⟩
    · exact h
  unfold passBlock
  split <;> exact hms

theorem ringsAlike_lineSample {rx1 rx2 : Sample} {s : State} :
    RingsAlike s (passBlock (passMillisecond { s with
      line1 := sampleLine rx1 s.line1, line2 := sampleLine rx2 s.line2, ring := laterMoment s.ring
      tick := (s.tick + 1) % 40 })) where
  ring := arbiterAlike_passed ⟨rfl, fun _ => id⟩
  lines l := by
    rw [line_lineSample (rx := if l = .one then rx1 else rx2) l (by rintro rfl; rfl) (by rintro rfl; rfl)]
    exact lineAlike_lineSampled ..

end Sys2Proof.Machine
end

section
/-! SUPPORT. Settled: every step keeps ringing on ON_HOOK lines fed NORMAL or REVERSED alone. Cadences, the loop supervision and the
resets act on a line that stands apart from the arbiter, or has left it first (R97 to R99, R103, R141 to R156). -/

namespace Sys2Proof.Machine

open Sys2Proof.Claim Sys2Proof.Safety

/-! ### Changes of one line -/

/-- A line with the same supervisor, and no ring cadence that it had not, still fits. -/
theorem FeedFits.of_sup {x y : LineState} (h : FeedFits x) (hs : y.sup = x.sup)
    (hk : y.cad.kind = .ring → x.cad.kind = .ring) : FeedFits y := by
  obtain ⟨h1, h2, h3⟩ := h
  rw [← hs] at h1 h2 h3
  exact ⟨fun hy => h1 (hk hy), h2, h3⟩

/-- A fed line without a ring cadence fits, whatever its supervision. -/
theorem feedFits_of_fed {x : LineState} (hk : x.cad.kind ≠ .ring) (hf : x.sup.feed ≠ .off) : FeedFits x :=
  ⟨fun h => absurd h hk, fun h => absurd h hf, fun _ => hf⟩

theorem safeRinging_modSup {l : Line} {f : Supervisor → Supervisor} {s : State} (h : SafeRinging s)
    (hf : FeedFits { s.line l with sup := f (s.line l).sup }) : SafeRinging (s.modSup l f) :=
  (lineWork_modSup l f s).beside.sound h (by rw [line_modSup_same]) (by rw [line_modSup_same])
    (by rw [line_modSup_same]; exact hf)

/-- A line that stands apart changes to one that fits. -/
theorem Apart.modLine {l : Line} {f : LineState → LineState} {s : State} (h : Apart l s) (hf : FeedFits (f (s.line l)))
    (hx : (f (s.line l)).cid.state ≠ .idle → (f (s.line l)).cad.kind = .ring ∧ (f (s.line l)).cad.timer = none) :
    SafeRinging (s.modLine l f) :=
  (h.beside (lineWork_modLine l f s).beside).sound_of (by rw [line_modLine_same]; exact hf)
    (by rw [line_modLine_same]; exact hx)

/-! ### The end of a ringing and of a cadence (R144, R154 to R157) -/

/-- A line whose ringing has ended stands apart. -/
theorem SafeRinging.endRinging {s : State} (h : SafeRinging s) (g : Bool) (l : Line) : Apart l (endRinging g l s) :=
  apart_endRinging g h.nodup (fun hd => ((h.fits l).driven hd).2) (h.feed _) (h.fits _)

theorem safeRinging_endRinging {l : Line} {s : State} (h : SafeRinging s) (hx : (s.line l).cid.state = .idle) :
    SafeRinging (endRinging true l s) := by
  obtain ⟨t, ht⟩ := line_endRinging true l l s
  exact (h.endRinging true l).sound (by rw [ht]; exact (h.feed l).of_sup rfl id) (by rw [ht]; exact hx)

theorem feedFits_endCadence {l : Line} {s : State} (h : FeedFits (s.line l)) : FeedFits ((endCadence l s).line l) := by
  rw [line_endCadence_same]
  exact h.of_sup rfl nofun

theorem safeRinging_endCadence {l : Line} {s : State} (h : SafeRinging s) (ha : Away l s.ring)
    (hx : (s.line l).cid.state = .idle) : SafeRinging (endCadence l s) :=
  ((h.apart ha).beside (beside_endCadence l s)).sound (feedFits_endCadence (h.feed l))
    (by rw [line_endCadence_same]; exact hx)

theorem beside_stopTone (l : Line) (s : State) : Beside l s (stopTone l s) := (lineWork_stopTone l s).beside

theorem safeRinging_stopTone {l : Line} {s : State} (h : SafeRinging s) : SafeRinging (stopTone l s) := by
  rw [stopTone_eq]
  split
  next ht =>
    obtain ⟨ha, hx⟩ := (h.fits l).away (by rw [ht]; nofun)
    exact (h.apart ha).modLine ((h.feed l).of_sup rfl nofun) fun hs => absurd hx hs
  next => exact h

/-- What the stop of a ring cadence leaves of its line. -/
structure RingQuiet (l : Line) (s : State) : Prop where
  apart : Apart l s
  kind : (s.line l).cad.kind ≠ .ring
  idle : (s.line l).cid.state = .idle

theorem SafeRinging.quiet {l : Line} {s : State} (h : SafeRinging s) (hk : (s.line l).cad.kind ≠ .ring) : RingQuiet l s :=
  have ⟨ha, hx⟩ := (h.fits l).away hk
  ⟨h.apart ha, hk, hx⟩

theorem RingQuiet.sound {l : Line} {s : State} (h : RingQuiet l s) (hf : FeedFits (s.line l)) : SafeRinging s :=
  h.apart.sound hf h.idle

theorem RingQuiet.beside {l : Line} {s u : State} (h : RingQuiet l s) (w : Beside l s u)
    (hk : (u.line l).cad.kind = .ring → (s.line l).cad.kind = .ring) (hx : (u.line l).cid = (s.line l).cid) : RingQuiet l u :=
  ⟨h.apart.beside w, mt hk h.kind, by rw [hx]; exact h.idle⟩

/-- A safe line whose supervisor alone has changed, and whose ring cadence is then stopped, is quiet. -/
theorem ringQuiet_stopRing {l : Line} {s t : State} (h : SafeRinging s) (w : Beside l s t)
    (hc : (t.line l).cad = (s.line l).cad) (hx : (t.line l).cid = (s.line l).cid) : RingQuiet l (stopRing l t) := by
  by_cases hk : (s.line l).cad.kind = .ring
  · have hfits : RingFits l t.ring (t.line l) :=
      (h.fits l).alike w.ring (by rw [hc]) (by rw [hc]) (by rw [hx]; exact id)
    have hother : RingFits (otherLine l) t.ring (t.line (otherLine l)) := by
      rw [w.other]
      exact (h.fits _).alike w.ring rfl rfl id
    have hended : Apart l (endRinging true l t) := apart_endRinging true (by rw [w.ring.waitList]; exact h.nodup)
      (fun hd => (hfits.driven hd).2) (by rw [w.other]; exact h.feed _) hother
    have hstop : stopRing l t = endCadence l (stopCallerId l (endRinging true l t)) :=
      if_pos (decide_eq_true (by rw [hc]; exact hk))
    rw [hstop]
    refine ⟨hended.beside ((lineWork_stopCallerId l _).beside.trans (beside_endCadence l _)), ?_, ?_⟩
    · rw [line_endCadence_same]
      nofun
    · rw [line_endCadence_same, line_stopCallerId]
      rfl
  · have hstop : stopRing l t = t := if_neg (by rw [ringCadence, hc]; simpa using hk)
    rw [hstop]
    exact (h.quiet hk).beside w (by rw [hc]; exact id) hx

theorem ringQuiet_cadenceStopped {l : Line} {s t : State} (h : SafeRinging s) (w : Beside l s t)
    (hc : (t.line l).cad = (s.line l).cad) (hx : (t.line l).cid = (s.line l).cid) :
    RingQuiet l (cadenceStopped l t) := by
  have hline : (cadenceStopped l t).line l = { (stopRing l t).line l with cad := toneStopped ((stopRing l t).line l).cad } :=
    line_stopTone l _
  refine (ringQuiet_stopRing h w hc hx).beside (beside_stopTone l (stopRing l t)) ?_ (by rw [hline])
  rw [hline]
  unfold toneStopped
  split
  · nofun
  · exact id

/-- The supervisor of a line is the same after its ring cadence has stopped. -/
theorem sup_stopRing (l : Line) (s : State) : ((stopRing l s).line l).sup = (s.line l).sup := by
  obtain ⟨t, ht⟩ := line_endRinging true l l s
  unfold stopRing
  split
  · rw [line_endCadence_same, line_stopCallerId, ht]
  · rfl

theorem safeRinging_stopRing {l : Line} {s : State} (h : SafeRinging s) : SafeRinging (stopRing l s) :=
  (ringQuiet_stopRing h (.refl l s) rfl rfl).sound
    ((h.feed l).of_sup (sup_stopRing l s) fun hk => absurd hk (ringQuiet_stopRing h (.refl l s) rfl rfl).kind)

/-! ### Steps of a cadence (R141 to R144) -/

/-- Only a ring cadence asks for a burst, and only one sends (R141). -/
theorem stepEffect_notRing {x : LineState} (i : Fin 64) (e : CadenceStep) (h : x.cad.kind ≠ .ring) :
    stepEffect x i e ≠ .ring ∧ stepEffect x i e ≠ .cid := by
  unfold stepEffect
  split
  case h_1 hk => exact absurd hk h
  case h_6 hk => exact absurd hk h
  all_goals exact ⟨nofun, nofun⟩

theorem kind_of_stepEffect {x : LineState} {i : Fin 64} {e : CadenceStep}
    (h : stepEffect x i e = .ring ∨ stepEffect x i e = .cid) : x.cad.kind = .ring := by
  by_contra hk
  obtain ⟨hring, hcid⟩ := stepEffect_notRing i e hk
  exact h.elim hring hcid

/-- A line that is neither driven nor waiting and sends nothing, in a safe state: one at which a step can begin. -/
structure AtRest (l : Line) (s : State) : Prop where
  safe : SafeRinging s
  away : Away l s.ring
  idle : (s.line l).cid.state = .idle

theorem AtRest.apart {l : Line} {s : State} (h : AtRest l s) : Apart l s := h.safe.apart h.away

theorem AtRest.ended {l : Line} {s : State} (h : AtRest l s) : SafeRinging (endCadence l s) :=
  safeRinging_endCadence h.safe h.away h.idle

/-- A line at rest changes neither its supervisor nor its transmitter, and begins no ring cadence. -/
theorem AtRest.modLine {l : Line} {s : State} (h : AtRest l s) {f : LineState → LineState}
    (hs : (f (s.line l)).sup = (s.line l).sup)
    (hk : (f (s.line l)).cad.kind = .ring → (s.line l).cad.kind = .ring)
    (hx : (f (s.line l)).cid = (s.line l).cid) : AtRest l (s.modLine l f) where
  safe := h.apart.modLine ((h.safe.feed l).of_sup hs hk) fun hn => absurd h.idle (hx ▸ hn)
  away := by rw [modLine_ring]; exact h.away
  idle := by rw [line_modLine_same, hx]; exact h.idle

theorem AtRest.modCad {l : Line} {s : State} (h : AtRest l s) {f : CadenceEngine → CadenceEngine}
    (hk : (f (s.line l).cad).kind = .ring → (s.line l).cad.kind = .ring) : AtRest l (s.modCad l f) :=
  h.modLine (f := fun x => { x with cad := f x.cad }) rfl hk rfl

theorem AtRest.beginRing {l : Line} {s : State} (h : AtRest l s) (hk : (s.line l).cad.kind = .ring) (i : Fin 64)
    (e : CadenceStep) : SafeRinging (beginRing l i e s) := by
  obtain ⟨hsafe, haway, hidle⟩ := h.modCad
    (f := fun c => { c with current := i, inHand := some { step := e, pair := none }, zeroRun := 0, timer := none }) id
  exact safeRinging_ringRequest hsafe haway (by rw [line_modCad_same]; exact hk) (by rw [line_modCad_same]) hidle

theorem AtRest.beginCid {l : Line} {s : State} (h : AtRest l s) (hk : (s.line l).cad.kind = .ring) (i : Fin 64)
    (e : CadenceStep) : SafeRinging (beginCid l i e s) := by
  have hset := h.modCad
    (f := fun c => { c with current := i, inHand := some { step := e, pair := none }, zeroRun := 0, timer := none }) id
  refine hset.apart.modLine (f := fun x => { x with cid := startTransmission x.cid })
    ((hset.safe.feed l).of_sup rfl id) fun _ => ?_
  rw [line_modCad_same]
  exact ⟨hk, rfl⟩

/-- The steps that begin without passage of time: each acts on a line at rest, until one takes time, asks for a burst, sends or
ends the cadence. -/
theorem safeRinging_beginStep (l : Line) (before : Option TonePair) (n : Nat) : ∀ (i : Fin 64) (s : State),
    AtRest l s → SafeRinging (beginStep l before n i s) := by
  induction n with
  | zero => exact fun i s h => h.ended
  | succ n ih =>
    intro i s h
    unfold beginStep
    dsimp only
    split
    next => exact (h.modLine rfl id rfl).safe
    next =>
      unfold beginTone
      exact (h.modLine rfl id rfl).safe
    next he => exact h.beginRing (kind_of_stepEffect (.inl he)) _ _
    next he => exact h.beginCid (kind_of_stepEffect (.inr he)) _ _
    next => exact h.ended
    next next register he =>
      have hpassed := h.modCad (f := fun c => { c with
        current := i, inHand := some { step := s.steps[i], pair := none }, timer := none, loop := register
        zeroRun := c.zeroRun + 1 }) id
      split
      · exact hpassed.ended
      · split
        · exact ih _ _ hpassed
        · exact hpassed.ended

end Sys2Proof.Machine
end

section
/-! SUPPORT. Settled: every step keeps ringing on ON_HOOK lines fed NORMAL or REVERSED alone. The starts and advances of a cadence, the
converter's timers and the loop supervision (R97 to R114, R139 to R170). -/

namespace Sys2Proof.Machine

open Sys2Proof.Claim Sys2Proof.Safety

/-! ### Cadences that start and go on (R139 to R144, R154, R170) -/

theorem AtRest.alike {l : Line} {s u : State} (h : AtRest l s) (w : RingsAlike s u) : AtRest l u where
  safe := w.sound h.safe
  away := ⟨fun hd => h.away.1 (w.ring.driven l hd), by rw [w.ring.waitList]; exact h.away.2⟩
  idle := by_contra fun hx => (w.lines l).sending hx h.idle

theorem AtRest.advanced {l : Line} {s : State} (h : AtRest l s) : SafeRinging (advanceCadence l s) := by
  unfold advanceCadence
  dsimp only
  split
  · exact safeRinging_beginStep l _ _ _ _ (h.modCad id)
  · exact h.ended

/-- A cadence starts on an idle line that stands apart and whose supervision fits the cadence's kind. -/
theorem safeRinging_startCadence {k : CadenceKind} {l : Line} {s : State} (i : Fin 64) (h : Apart l s)
    (hx : (s.line l).cid.state = .idle) (hf : ∀ c, c.kind = k → FeedFits { s.line l with cad := c }) :
    SafeRinging (startCadence k l i s) := by
  have hset : AtRest l (s.modCad l fun c => { c with
      kind := k, index := i, current := i, inHand := none, timer := none, loop := none, zeroRun := 0 }) :=
    ⟨h.modLine (f := fun x => { x with cad := { x.cad with
      kind := k, index := i, current := i, inHand := none, timer := none, loop := none, zeroRun := 0 } })
      (hf _ rfl) (fun hs => absurd hx hs), by rw [modCad_ring]; exact h.away, by rw [line_modCad_same]; exact hx⟩
  unfold startCadence
  dsimp only
  refine safeRinging_beginStep l _ _ _ _ ?_
  split
  · exact hset.alike (ringsAlike_elsewhere (line_modRing _ _) ⟨rfl, fun _ => id⟩)
  · exact hset

/-- A line whose step timer runs does not wait and sends nothing. -/
theorem SafeRinging.timed {l : Line} {s : State} (h : SafeRinging s) (ht : (s.line l).cad.timer ≠ none) :
    l ∉ s.ring.waitList ∧ (s.line l).cid.state = .idle :=
  ⟨fun hw => ht ((h.fits l).waiting hw).2, by_contra fun hx => ht ((h.fits l).sending hx).2.1⟩

theorem safeRinging_stepEnded {l : Line} {s : State} (h : SafeRinging s) (hd : stepDue (s.line l) = true) :
    SafeRinging (advanceCadence l (if s.ring.converter = .driving l then endRinging true l s else s)) := by
  have htimer : (s.line l).cad.timer ≠ none := fun hn => by
    rw [stepDue, hn] at hd
    simp [Timer.expired] at hd
  obtain ⟨hw, hx⟩ := h.timed htimer
  split
  · obtain ⟨t, ht⟩ := line_endRinging true l l s
    exact AtRest.advanced ⟨safeRinging_endRinging h hx, (h.endRinging true l).away, by rw [ht]; exact hx⟩
  next hn => exact AtRest.advanced ⟨h, ⟨hn, hw⟩, hx⟩

theorem safeRinging_completeTransmission {l : Line} {s : State} (h : SafeRinging s) (hs : allSent (s.line l).cid = true) :
    SafeRinging (completeTransmission l s) := by
  have hsends : (s.line l).cid.state ≠ .idle := fun hi => by
    rw [allSent, hi] at hs
    cases hs
  obtain ⟨-, -, hd, hw⟩ := (h.fits l).sending hsends
  have hdone : LineWork l s (storePlain l .cidDone 0 0 (s.modCid l dropTransmission)) :=
    (lineWork_modCid ..).trans (lineWork_storePlain ..)
  have hrest : AtRest l (storePlain l .cidDone 0 0 (s.modCid l dropTransmission)) := by
    have hline := line_storePlain_same l .cidDone 0 0 (s.modCid l dropTransmission)
    rw [line_modCid_same] at hline
    have hidle : ((storePlain l .cidDone 0 0 (s.modCid l dropTransmission)).line l).cid.state = .idle := by
      rw [hline]
      rfl
    have hapart : Apart l s := h.apart ⟨hd, hw⟩
    refine ⟨(hapart.beside hdone.beside).sound ?_ hidle, (hapart.beside hdone.beside).away, hidle⟩
    rw [hline]
    exact (h.feed l).of_sup rfl id
  unfold completeTransmission
  dsimp only
  split
  · exact hrest.advanced
  · exact hrest.safe

/-! ### The converter's timers (R150, R159) -/

theorem safeRinging_started {s : State} (h : SafeRinging s) :
    SafeRinging (if s.ring.waitList = [] then judgeKeepWarm (s.modRing fun a => { a with converter := .ready, startTimer := none })
      else grantHead (s.modRing fun a => { a with converter := .ready, startTimer := none })) := by
  have hready : RingsAlike s (s.modRing fun a => { a with converter := .ready, startTimer := none }) :=
    ringsAlike_elsewhere (line_modRing _ _) ⟨rfl, nofun⟩
  split
  · exact (hready.trans (ringsAlike_judgeKeepWarm _)).sound h
  · exact safeRinging_grantHead (hready.sound h)

theorem ringsAlike_turnedOff (s : State) : RingsAlike s (s.modRing fun a => { a with converter := .off, keepWarm := none }) :=
  ringsAlike_elsewhere (line_modRing _ _) ⟨rfl, nofun⟩

/-! ### The feed (R98, R99) -/

theorem line_setFeedMode_same (l : Line) (m : FeedMode) (s : State) :
    (setFeedMode l m s).line l = { s.line l with sup := { (s.line l).sup with feed := m } } := by
  unfold setFeedMode
  split
  next h => rw [← h]
  next => rw [line_feedChanged, line_modSup_same]

theorem beside_setFeedMode (l : Line) (m : FeedMode) (s : State) : Beside l s (setFeedMode l m s) :=
  beside_ite (.refl l s) ((lineWork_modSup l _ s).beside.trans (beside_feedChanged l _))

theorem beside_wake (l : Line) (s : State) : Beside l s (wake l s) := beside_ite (beside_setFeedMode l _ s) (.refl l s)

theorem safeRinging_setFeedMode {l : Line} {m : FeedMode} {s : State} (h : SafeRinging s) (hm : m ≠ .off)
    (hr : (s.line l).cad.kind = .ring → m ≠ .standby) : SafeRinging (setFeedMode l m s) := by
  have hline := line_setFeedMode_same l m s
  refine (beside_setFeedMode l m s).sound h (by rw [hline]) (by rw [hline]) ?_
  rw [hline]
  refine ⟨fun hk => ⟨((h.feed l).ringing hk).1, ?_⟩, fun hoff => absurd hoff hm, fun _ => hm⟩
  have hstandby := hr hk
  cases m with
  | normal => rfl
  | reversed => rfl
  | standby => exact absurd rfl hstandby
  | off => exact absurd rfl hm

theorem wokenFeed_ne_off {m : FeedMode} (h : m ≠ .off) : wokenFeed m ≠ .off := by
  unfold wokenFeed
  split
  · nofun
  · exact h

theorem wokenFeed_full {m : FeedMode} (h : m ≠ .off) : fullFeed (wokenFeed m) = true := by
  cases m with
  | off => exact absurd rfl h
  | _ => rfl

/-- The supervisor with its feed taken by SET_FEED OFF (R98). -/
def feedTaken (v : Supervisor) : Supervisor :=
  { discardTimings v with feed := .off, state := .down, retryTimer := none, restoreCheck := none, seriesOpen := false,
                          overcurrentTimer := none }

/-- The feed is removed, and no cadence is stopped yet. -/
def unfed (l : Line) (s : State) : State := feedChanged (s.modSup l feedTaken)

theorem removeFeed_eq (l : Line) (s : State) : removeFeed l s = followDetectors l (cadenceStopped l (unfed l s)) := rfl

theorem line_unfed (l : Line) (s : State) :
    (unfed l s).line l = { s.line l with sup := feedTaken (s.line l).sup } := by
  rw [unfed, line_feedChanged, line_modSup_same]

theorem safeRinging_removeFeed {l : Line} {s : State} (h : SafeRinging s) : SafeRinging (removeFeed l s) := by
  have hline := line_unfed l s
  have hquiet : RingQuiet l (cadenceStopped l (unfed l s)) := ringQuiet_cadenceStopped h
    ((lineWork_modSup l _ s).beside.trans (beside_feedChanged l _)) (by rw [hline]) (by rw [hline])
  obtain ⟨c, hc, hk, -⟩ := line_cadenceStopped l (unfed l s)
  refine (ringsAlike_followDetectors l _).sound (hquiet.sound ?_)
  rw [hc, hline]
  exact ⟨fun hr => absurd (hk.symm.trans hr) nofun, fun _ => rfl, nofun⟩

theorem safeRinging_applyFeed {l : Line} {m : FeedMode} {s : State} (h : SafeRinging s) (ho : (s.line l).sup.feed = .off)
    (hm : m ≠ .off) : SafeRinging (applyFeed l m s) := by
  have hkind : (s.line l).cad.kind ≠ .ring := (h.feed l).notRinging (by rw [(h.feed l).unfed ho]; nofun)
  have hline : (applyFeed l m s).line l =
      { s.line l with sup := enterOnHook { s.line l with sup := { (s.line l).sup with feed := m } } } := by
    rw [applyFeed, line_modLine_same, line_setFeedMode_same]
  have hbeside : Beside l s (applyFeed l m s) := (beside_setFeedMode l m s).trans (lineWork_modLine ..).beside
  have happlied : RingQuiet l (applyFeed l m s) := (h.quiet hkind).beside hbeside (by rw [hline]; exact id) (by rw [hline])
  refine happlied.sound ?_
  rw [hline]
  exact feedFits_of_fed hkind hm

theorem safeRinging_changeFeed {l : Line} {m : FeedMode} {s : State} (h : SafeRinging s)
    (hr : (s.line l).cad.kind = .ring → m ≠ .standby) : SafeRinging (changeFeed l m s) := by
  unfold changeFeed
  split
  · exact h
  · split
    · exact safeRinging_removeFeed h
    next hm =>
      split
      next ho => exact safeRinging_applyFeed h ho hm
      next => exact safeRinging_setFeedMode h hm hr

theorem safeRinging_feedOnLine (mode : Byte) {l : Line} {s : State} (h : SafeRinging s) :
    SafeRinging (feedOnLine mode l s).state := by
  unfold feedOnLine
  split
  · exact h
  next m _ =>
    split
    · exact h
    next hallowed =>
      refine safeRinging_changeFeed h fun hk hm => hallowed ?_
      simp [hm, standbyRefused, ringCadence, hk]

theorem safeRinging_restoreFeed {l : Line} {s : State} (h : SafeRinging s) (hr : (s.line l).sup.retryTimer.isSome = true) :
    SafeRinging (s.modLine l restoreFeed) := by
  have hfed := (h.feed l).retrying hr
  refine (lineWork_modLine l restoreFeed s).beside.sound h (by rw [line_modLine_same]; rfl) (by rw [line_modLine_same]; rfl) ?_
  rw [line_modLine_same]
  exact ⟨fun hk => ⟨rfl, ((h.feed l).ringing hk).2⟩, fun ho => absurd ho hfed, nofun⟩

/-! ### Off-hook and hang-up (R102 to R107) -/

theorem RingQuiet.wentOffHook {l : Line} {s : State} (h : RingQuiet l s) (hf : (s.line l).sup.feed ≠ .off) (trip : Bool) :
    SafeRinging (goOffHook l trip s) := by
  have hline := line_offHookEvent l trip s
  have hevent : Beside l s (offHookEvent l trip s) :=
    (lineWork_modSup l (fun v => { v with state := .offHook, qualification := none }) s).beside.trans
      ((beside_wake l _).trans (lineWork_emit ..).beside)
  have hquiet : RingQuiet l (offHookEvent l trip s) :=
    h.beside hevent (by rw [hline]; exact id) (by rw [hline]; rfl)
  refine (ringsAlike_followDetectors l (offHookEvent l trip s)).sound (hquiet.sound (feedFits_of_fed hquiet.kind ?_))
  rw [hline]
  exact wokenFeed_ne_off hf

theorem ringQuiet_ringCleared {l : Line} {s : State} (h : SafeRinging s) : RingQuiet l (ringCleared l s) := by
  have hline := line_ringCleared l s
  refine ⟨(h.endRinging true l).beside ((beside_endCadence l _).trans (lineWork_stopCallerId l _).beside), ?_, ?_⟩ <;>
    rw [hline]
  · nofun
  · rfl

theorem safeRinging_completeQualification {l : Line} {s : State} (h : SafeRinging s) (hs : (s.line l).sup.state = .onHook) :
    SafeRinging (completeQualification l s) := by
  have hfed := (h.feed l).fed (by rw [hs]; nofun)
  unfold completeQualification
  split
  · exact (ringQuiet_ringCleared h).wentOffHook (by rw [line_ringCleared]; exact hfed) true
  next hk => exact (h.quiet (by simpa [ringCadence] using hk)).wentOffHook hfed false

theorem safeRinging_settleQualification {l : Line} {s : State} (h : SafeRinging s) :
    SafeRinging (settleQualification l s) := by
  unfold settleQualification
  split
  next hdue =>
    rw [qualificationDue, Bool.and_eq_true, decide_eq_true_iff] at hdue
    exact safeRinging_completeQualification h hdue.1
  next => exact h

/-- A fed line whose state is not ON_HOOK has no ring cadence, and may take any state in which it stays fed. -/
theorem safeRinging_supervised {l : Line} {f : Supervisor → Supervisor} {s : State} (h : SafeRinging s)
    (hdown : (s.line l).sup.state ≠ .down) (hs : (s.line l).sup.state ≠ .onHook)
    (hf : (f (s.line l).sup).feed = (s.line l).sup.feed) : SafeRinging (s.modSup l f) :=
  safeRinging_modSup h (feedFits_of_fed ((h.feed l).notRinging hs) (by rw [hf]; exact (h.feed l).fed hdown))

theorem safeRinging_doHangUp {l : Line} {s : State} (d : Nat) (h : SafeRinging s) (hs : (s.line l).sup.state = .inBreak) :
    SafeRinging (doHangUp l d s) := by
  have hhung : SafeRinging (s.modSup l hungUp) := safeRinging_supervised h (by rw [hs]; nofun) (by rw [hs]; nofun) rfl
  exact (ringsAlike_followDetectors l (hangUpStored l d s)).sound
    ((ringsAlike_emit l .onHook 0 d false _).sound (safeRinging_stopTone hhung))

theorem safeRinging_classifyBreak {l : Line} {s : State} (r : BreakRecord) (b : Nat) (h : SafeRinging s)
    (hs : (s.line l).sup.state = .inBreak) : SafeRinging (classifyBreak l r b s) := by
  have hback : SafeRinging (s.modSup l fun v => { v with state := .offHook, breakRecord := none }) :=
    safeRinging_supervised h (by rw [hs]; nofun) (by rw [hs]; nofun) rfl
  unfold classifyBreak
  dsimp only
  split
  · refine (ringsAlike_modSup ?_ ?_ ?_).sound hback <;> split <;> rfl
  · exact (ringsAlike_modSup rfl rfl rfl).sound hback
  · exact ((ringsAlike_modSup rfl rfl rfl).trans (ringsAlike_emit ..)).sound hback
  · exact ((ringsAlike_emitDigit ..).trans (ringsAlike_emit ..)).sound hback

theorem safeRinging_returnEdge {l : Line} {s : State} (r : BreakRecord) (h : SafeRinging s)
    (hs : (s.line l).sup.state = .inBreak) : SafeRinging (returnEdge l r s) := by
  unfold returnEdge
  dsimp only
  split
  · exact safeRinging_classifyBreak r _ h hs
  · exact (ringsAlike_modLine ⟨rfl, rfl, rfl, rfl, rfl, id⟩).sound (safeRinging_doHangUp _ h hs)

theorem safeRinging_offHookEdge {l : Line} {s : State} (h : SafeRinging s) : SafeRinging (offHookEdge l s) := by
  have hmarked : SafeRinging (s.modSup l fun v => { v with filteredOffHook := true }) :=
    (ringsAlike_modSup rfl rfl rfl).sound h
  unfold offHookEdge
  dsimp only
  split
  · exact (ringsAlike_modLine ⟨rfl, rfl, rfl, rfl, rfl, id⟩).sound hmarked
  next hs _ => exact safeRinging_returnEdge _ hmarked hs
  · exact hmarked

/-- But in OFF_HOOK, where a break begins, an on-hook edge leaves state, feed and retry timer. -/
theorem onHookEdge_kept (now : Word) {v : Supervisor} (hs : v.state ≠ .offHook) : (onHookEdge now v).state = v.state
    ∧ (onHookEdge now v).feed = v.feed ∧ (onHookEdge now v).retryTimer = v.retryTimer := by
  unfold onHookEdge
  dsimp only
  split
  next h => exact absurd h hs
  next => exact ⟨rfl, rfl, rfl⟩
  next => exact ⟨rfl, rfl, rfl⟩

theorem safeRinging_onHookEdge {l : Line} {s : State} (now : Word) (h : SafeRinging s) :
    SafeRinging (s.modSup l (onHookEdge now)) := by
  by_cases hs : (s.line l).sup.state = .offHook
  · exact safeRinging_supervised h (by rw [hs]; nofun) (by rw [hs]; nofun) (by simp only [onHookEdge, hs]; rfl)
  · obtain ⟨hstate, hfeed, hretry⟩ := onHookEdge_kept now hs
    exact (ringsAlike_modSup hstate hfeed hretry).sound h

/-! ### Loop fault (R112) -/

theorem safeRinging_declareFault {l : Line} {s : State} (h : SafeRinging s) (hs : (s.line l).sup.state ≠ .down) :
    SafeRinging (declareFault l s) := by
  have hquiet : RingQuiet l (cadenceStopped l (s.modSup l feedRemoved)) := ringQuiet_cadenceStopped h
    (lineWork_modSup l feedRemoved s).beside (by rw [line_modSup_same]) (by rw [line_modSup_same])
  have hwork : LineWork l (cadenceStopped l (s.modSup l feedRemoved)) (faultStored l s) :=
    (lineWork_openSeries l _).trans (lineWork_modLine l retryStarted _)
  obtain ⟨c, hc, hk, -⟩ := line_faultStored l s
  refine (ringsAlike_followDetectors l (faultStored l s)).sound ((hquiet.apart.beside hwork.beside).sound ?_ ?_)
  · rw [hc]
    exact ⟨fun hr => absurd (hk.symm.trans hr) nofun, fun _ => rfl, fun _ => (h.feed l).fed hs⟩
  · rw [hc]
    show (if (s.line l).cad.kind = .ring then dropTransmission (s.line l).cid else (s.line l).cid).state = .idle
    split
    next => rfl
    next hr => exact (h.quiet hr).idle

end Sys2Proof.Machine
end

section
/-! SUPPORT. Settled: every step keeps ringing on ON_HOOK lines fed NORMAL or REVERSED alone. The resets, the commands and every row
(R19 to R22, R97 to R99, R139 to R145). -/

namespace Sys2Proof.Machine

open Sys2Proof.Claim Sys2Proof.Safety

/-! ### The resets (R19 to R22) -/

theorem apart_endRingCadence (g : Bool) {l : Line} {s : State} (h : SafeRinging s) : Apart l (endRingCadence g l s) := by
  by_cases hk : (s.line l).cad.kind = .ring
  · have he : endRingCadence g l s = endCadence l (endRinging g l s) := if_pos (decide_eq_true hk)
    rw [he]
    exact (h.endRinging g l).beside (beside_endCadence l _)
  · rw [endRingCadence_none hk]
    exact (h.quiet hk).apart

theorem feedFits_resetLineState (x : LineState) : FeedFits (resetLineState x) := by
  have hsup : (resetLineState x).sup = resetSupervisor x := rfl
  refine ⟨nofun, fun ho => ?_, fun hr => ?_⟩
  · rw [hsup, resetSupervisor_eq] at ho ⊢
    exact if_pos ho
  · rw [hsup, resetSupervisor_eq] at hr
    cases hr

theorem safeRinging_resetLine (g : Bool) {l : Line} {s : State} (h : SafeRinging s) : SafeRinging (resetLine g l s) :=
  (apart_endRingCadence g h).modLine (feedFits_resetLineState _) fun hs => absurd rfl hs

theorem ringFits_reset (l : Line) {x : LineState} (hx : x.cid.state = .idle) : RingFits l RingArbiter.reset x :=
  ringFits_of_away ⟨nofun, nofun⟩ hx

theorem safeRinging_resetDevice (p : Port) (s : State) : SafeRinging (resetDevice p s) := by
  have hring : (resetDevice p s).ring = RingArbiter.reset := by
    rw [resetDevice, modPort_ring, modPort_ring, modRing_ring]
  have hline (l : Line) : ∃ o g, (resetDevice p s).line l = { deviceResetState (s.line l) with owner := o, generation := g } := by
    rw [line_resetDevice, dropOwner]
    split
    · exact ⟨_, _, rfl⟩
    · exact ⟨_, _, rfl⟩
  refine ⟨by rw [hring]; exact List.nodup_nil, fun l => ?_, fun l => ?_⟩ <;> obtain ⟨o, g, hl⟩ := hline l <;> rw [hl]
  · exact (feedFits_resetLineState { s.line l with sup := { (s.line l).sup with feed := .normal } }).of_sup rfl id
  · rw [hring]
    exact ringFits_reset l rfl

theorem safeRinging_powerOn (q : List Instr) : SafeRinging { State.reset with pending := q } := by
  refine ⟨List.nodup_nil, fun l => ?_, fun l => ?_⟩
  · cases l <;> exact ⟨nofun, nofun, nofun⟩
  · cases l <;> exact ringFits_reset _ rfl

/-! ### The cadence commands (R139, R140, R145) -/

theorem safeRinging_startRing (i : Fin 64) {l : Line} {s : State} (h : SafeRinging s) (hs : (s.line l).sup.state = .onHook) :
    SafeRinging (startRing l i s) := by
  have hsup := sup_stopRing l s
  have hwake := line_wake_same l (stopRing l s)
  have hquiet : RingQuiet l (wake l (stopRing l s)) := (ringQuiet_stopRing h (.refl l s) rfl rfl).beside
    (beside_wake l _) (by rw [hwake]; exact id) (by rw [hwake])
  have hfull : fullFeed ((wake l (stopRing l s)).line l).sup.feed = true := by
    rw [hwake, hsup]
    exact wokenFeed_full ((h.feed l).fed (by rw [hs]; nofun))
  have hstate : ((wake l (stopRing l s)).line l).sup.state = .onHook := by
    rw [hwake, hsup]
    exact hs
  refine safeRinging_settleQualification (safeRinging_startCadence i hquiet.apart hquiet.idle fun c _ => ?_)
  exact ⟨fun _ => ⟨hstate, hfull⟩, fun ho => absurd (ho ▸ hfull) nofun, fun _ ho => absurd (ho ▸ hfull) nofun⟩

theorem safeRinging_ringStartOnLine (step : Byte) {l : Line} {s : State} (h : SafeRinging s) :
    SafeRinging (ringStartOnLine step l s).state := by
  unfold ringStartOnLine
  split
  · exact h
  next hs =>
    split
    · exact safeRinging_startRing _ h (not_not.mp hs)
    · exact h

theorem safeRinging_ringStopOnLine {l : Line} {s : State} (h : SafeRinging s) : SafeRinging (ringStopOnLine l s).state := by
  show SafeRinging (if ringCadence (s.line l) then settleQualification l (stopRing l s) else s)
  split
  · exact safeRinging_settleQualification (safeRinging_stopRing h)
  · exact h

theorem safeRinging_startTone (i : Fin 64) {l : Line} {s : State} (h : SafeRinging s)
    (hs : toneAllowed (s.line l).sup.state = true) : SafeRinging (startTone l i s) := by
  have hoff : (s.line l).sup.state ≠ .onHook := fun he => by
    rw [he] at hs
    cases hs
  have hdown : (s.line l).sup.state ≠ .down := fun he => by
    rw [he] at hs
    cases hs
  have hline := line_stopTone l s
  have hsafe := safeRinging_stopTone (l := l) h
  have hquiet : RingQuiet l (stopTone l s) := hsafe.quiet ((hsafe.feed l).notRinging (by rw [hline]; exact hoff))
  refine safeRinging_startCadence i hquiet.apart hquiet.idle fun c hc => feedFits_of_fed ?_ ?_
  · exact fun hr => absurd (hc.symm.trans hr) nofun
  · rw [hline]
    exact (h.feed l).fed hdown

theorem safeRinging_toneStartOnLine (step : Byte) {l : Line} {s : State} (h : SafeRinging s) :
    SafeRinging (toneStartOnLine step l s).state := by
  unfold toneStartOnLine
  split
  next hs =>
    split
    · exact safeRinging_startTone _ h hs
    · exact h
  next => exact h

/-! ### Every row -/

theorem ringsAlike_latch (p : Port) (n : Notice) (s : State) : RingsAlike s (latch p n s) :=
  ringsAlike_elsewhere (line_latch p n s) (.of_eq (lineWork_latch .one p n s).ring)

/-- The work of every row that needs ownership. -/
theorem OwnerWork.safeRinging {p : Port} {w : Line → State → Answer} (hw : OwnerWork p w) {l : Line} {s : State}
    (h : SafeRinging s) : SafeRinging (w l s).state := by
  cases hw with
  | release => exact (ringsAlike_changeOwner l none s).sound h
  | handOver =>
    exact ((ringsAlike_changeOwner l (some (otherPort p)) s).trans (ringsAlike_latch (otherPort p) _ _)).sound h
  | readEvents => exact (ringsAlike_eventsOnLine l s).sound h
  | lineReset => exact safeRinging_resetLine true h
  | setFeed mode => exact safeRinging_feedOnLine mode h
  | setHookTiming t => exact (ringsAlike_timingOnLine t l s).sound h
  | ringStart step => exact safeRinging_ringStartOnLine step h
  | ringStop => exact safeRinging_ringStopOnLine h
  | toneStart step => exact safeRinging_toneStartOnLine step h
  | toneStop => exact safeRinging_stopTone h
  | loadCallerId f => exact (ringsAlike_loadOnLine f l s).sound h
  | channelOpen ability q => exact (ringsAlike_openOnLine ability q l s).sound h
  | channelClose => exact (ringsAlike_closeOnLine l s).sound h
  | channelDrain => exact (ringsAlike_drainOnLine l s).sound h
  | channelCloseBy option => exact (ringsAlike_closeByOption option l s).sound h
  | channelFlush => exact (ringsAlike_flushOnLine l s).sound h
  | setAbility ability => exact (ringsAlike_abilityOnLine ability l s).sound h
  | setClass mediaClass => exact (ringsAlike_classOnLine mediaClass l s).sound h
  | agreementRestart => exact (ringsAlike_restartOnLine l s).sound h

theorem RowWork.safeRinging (s u : State) (h : RowWork s u) (hs : SafeRinging s) : SafeRinging u := by
  cases h with
  | elsewhere hl hr => exact (ringsAlike_elsewhere hl (.of_eq hr)).sound hs
  | owned hw l => exact hw.safeRinging hs
  | claimed p l => exact (ringsAlike_changeOwner l (some p) s).sound hs
  | cleared l f => exact (ringsAlike_modCtr s l f).sound hs
  | deviceReset p => exact safeRinging_resetDevice p s

theorem safeRinging_ite {c : Prop} [Decidable c] {s u : State} (hs : SafeRinging s) (hu : c → SafeRinging u) :
    SafeRinging (if c then u else s) := by
  split
  next h => exact hu h
  next => exact hs

theorem inBreak_of_overlongBreak {x : LineState} {r : BreakRecord} (h : overlongBreak x = some r) :
    x.sup.state = .inBreak := by
  unfold overlongBreak at h
  split at h
  · split at h
    next hdue =>
      rw [Bool.and_eq_true, decide_eq_true_iff] at hdue
      exact hdue.1
    next => cases h
  · cases h

/-- The events of the lines, the converter and the clock, and media. -/
theorem safeRinging_lineEvent {c : Instr} (hc : lineEvent c = true) {s t : State} (h : SafeRinging s)
    (he : exec c s = .next t) : SafeRinging t := by
  cases c <;> cases hc <;> cases he
  case powerOnReset => exact safeRinging_powerOn _
  case mediaTaken p body =>
    refine safeRinging_ite h fun _ => ?_
    split
    · exact (ringsAlike_routeFrame ..).sound h
    · exact (ringsAlike_modPort ..).sound h
  case uplinkBoundary l =>
    exact safeRinging_ite h fun _ => ((ringsAlike_modChan s l _).trans (ringsAlike_routeUplink l _ _)).sound h
  case frameStart l => exact safeRinging_ite h fun _ => (ringsAlike_beginPeriod l s).sound h
  case agreementTimeout l => exact safeRinging_ite h fun _ => (ringsAlike_enterPresumed l _ s).sound h
  case filteredOffHookEdge l => exact safeRinging_ite h fun _ => safeRinging_offHookEdge h
  case filteredOnHookEdge l => exact safeRinging_ite h fun _ => safeRinging_onHookEdge _ h
  case offHookQualified l => exact safeRinging_settleQualification h
  case hangUp l =>
    split
    next r hr => exact safeRinging_doHangUp _ h (inBreak_of_overlongBreak hr)
    next => exact h
  case interdigitExpiry l => exact safeRinging_ite h fun _ => (ringsAlike_emitDigit l s).sound h
  case overcurrentStart l => exact (ringsAlike_modLine ⟨rfl, rfl, rfl, rfl, rfl, id⟩).sound h
  case overcurrentEnd l => exact (ringsAlike_modSup rfl rfl rfl).sound h
  case loopFault l =>
    refine safeRinging_ite h fun hdue => safeRinging_declareFault h ?_
    rw [faultDue, Bool.and_eq_true, decide_eq_true_iff] at hdue
    exact hdue.1
  case faultRetryExpiry l =>
    refine safeRinging_ite h fun hdue => safeRinging_restoreFeed h ?_
    cases hr : (s.line l).sup.retryTimer with
    | some t => rfl
    | none =>
      rw [hr] at hdue
      cases hdue
  case feedRestored l => exact safeRinging_ite h fun _ => (ringsAlike_closeSeries l s).sound h
  case detectorBlockBoundary l a b => exact safeRinging_ite h fun _ => (ringsAlike_judgeReadings l _ _ s).sound h
  case stepTimerExpiry l => exact safeRinging_ite h fun hdue => safeRinging_stepEnded h hdue
  case startTimerExpiry =>
    have hstarted := safeRinging_started h
    exact safeRinging_ite h fun _ => hstarted
  case keepWarmExpiry => exact safeRinging_ite h fun _ => (ringsAlike_turnedOff s).sound h
  case cidDone l => exact safeRinging_ite h fun hsent => safeRinging_completeTransmission h hsent
  case hookSample l off => exact (ringsAlike_modSup rfl rfl rfl).sound h
  case lineSample rx1 rx2 => exact ringsAlike_lineSample.sound h

theorem exec_safeRinging {c : Instr} {s t : State} (h : SafeRinging s) (he : exec c s = .next t) : SafeRinging t := by
  cases hc : lineEvent c with
  | true => exact safeRinging_lineEvent hc h he
  | false => exact (exec_rowWorks hc he).keeps RowWork.safeRinging h

theorem ringsAlike_pending (s : State) (q : List Instr) : RingsAlike s { s with pending := q } :=
  ringsAlike_elsewhere (fun l => by cases l <;> rfl) (.refl _)

theorem step_safeRinging {s t : State} (h : SafeRinging s) (hstep : step s = .next t) : SafeRinging t :=
  step_keeps (fun s q hs => (ringsAlike_pending s q).sound hs) (fun _ _ _ => exec_safeRinging) h hstep

/-! ### Where ringing voltage is (R97, R103, R149) -/

theorem loopSupply_ringing (s : State) (l : Line) : loopSupply s l = .ringing ↔ s.ring.converter = .driving l := by
  unfold loopSupply
  split
  next h => exact ⟨fun _ => h, fun _ => rfl⟩
  next h =>
    refine ⟨fun hr => ?_, fun hd => absurd hd h⟩
    split at hr <;> cases hr

/-- Settles O44: every row keeps the invariant, and only the driven line carries ringing voltage. -/
theorem ringKeptSound : Obligations.RingKeptSound := by
  intro s t hs hstep
  have ht := step_safeRinging ((ringSound_iff s).mp hs) hstep
  refine ⟨(ringSound_iff t).mpr ht, fun l hl => ?_, fun l m hl hm => ?_⟩
  · have hd := (loopSupply_ringing t l).mp hl
    exact (ht.feed l).ringing ((ht.fits l).driven hd).1
  · have h := ((loopSupply_ringing t l).mp hl).symm.trans ((loopSupply_ringing t m).mp hm)
    injection h

end Sys2Proof.Machine
end

section
/-! SUPPORT. Settled: SET_HOOK_TIMING, the hook readings and the filtered edges (R100 to R104, R110). -/

namespace Sys2Proof.Machine

open Sys2Proof.Claim

/-! ### SET_HOOK_TIMING (R110) -/

theorem timingBytes_eq (t : HookTiming) : timingBytes t
    = [t.offQualify, t.breakMin, t.pulseMax, t.flashMin, t.flashMax, t.interdigit].flatMap fun n =>
        [hiByte (BitVec.ofNat 16 n), loByte (BitVec.ofNat 16 n)] := rfl

/-- flash_max, clamped against the clamped flash_min, is never below it. -/
theorem timingOrdered_iff {t : HookTiming} (h : t.flashMin ≤ t.flashMax) :
    timingOrdered t = true ↔ t.breakMin < t.pulseMax ∧ t.pulseMax < t.flashMin := by
  rw [timingOrdered, decide_eq_true h, Bool.and_true, Bool.and_eq_true, decide_eq_true_iff, decide_eq_true_iff]

/-- Settles O30: the order alone decides between the two answers. -/
theorem hookTimingClamped : Obligations.HookTimingClamped := by
  intro p tag l a b c d e f s hf ho t h1 h2 h3 h4 h5 h6
  have ht : clampTiming a b c d e f = t := by
    cases t
    dsimp only at h1 h2 h3 h4 h5 h6
    subst h1 h2 h3 h4 h5 h6
    rfl
  have hexec : exec (.setHookTiming p tag (lineByte l) a b c d e f) s
      = .next (answered p tag 0x21 (timingOnLine t l s)) := by
    rw [← ht]
    exact congrArg Host.Outcome.next (issue_owned hf ho _ _)
  have horder := timingOrdered_iff (t := t) (by rw [h5]; exact Nat.le_max_left _ _)
  refine ⟨fun hb hp => ?_, fun hwrong => ?_⟩
  · rw [hexec, timingOnLine, if_pos (horder.mpr ⟨hb, hp⟩), answered_accept, timingBytes_eq]
  · rw [hexec, timingOnLine, if_neg (mt horder.mp (by omega)), answered_refuse]

/-! ### Hook readings and filtered edges (R100 to R104) -/

theorem majority_iff (h : HookSamples) : majority h = true ↔ offHookMajority h := by
  simp [majority, offHookMajority, or_assoc]

/-- A chatter pattern differs from its two neighbours (R101). -/
theorem chatterPattern_eq (h : HookSamples) :
    chatterPattern h = (decide (h.middle ≠ h.oldest) && decide (h.middle ≠ h.newest)) := by
  simp [chatterPattern, bne, beq_eq_decide]

theorem edgeDue_true_iff (v : Supervisor) : edgeDue true v = true ↔ offHookMajority v.samples ∧ v.filteredOffHook = false := by
  simp [edgeDue, majority_iff]

theorem edgeDue_false_iff (v : Supervisor) :
    edgeDue false v = true ↔ ¬ offHookMajority v.samples ∧ v.filteredOffHook = true := by
  rw [← majority_iff]
  simp [edgeDue]

/-- A filtered off-hook edge in ON_HOOK starts a qualification. -/
theorem offHookEdge_onHook {l : Line} {s : State} (hs : (s.line l).sup.state = .onHook) :
    offHookEdge l s = s.modSup l fun v => { v with
      filteredOffHook := true
      qualification := some { start := (s.line l).ms, offQualify := v.timing.offQualify } } := by
  simp only [offHookEdge, line_modSup_same, hs]
  exact (modLine_comp ..).trans (modLine_congr rfl)

theorem exec_filteredOffHookEdge {l : Line} {s : State} (hm : offHookMajority (s.line l).sup.samples)
    (hf : (s.line l).sup.filteredOffHook = false) : exec (.filteredOffHookEdge l) s = .next (offHookEdge l s) :=
  congrArg Host.Outcome.next (if_pos ((edgeDue_true_iff _).mpr ⟨hm, hf⟩))

theorem exec_filteredOnHookEdge {l : Line} {s : State} (hm : ¬ offHookMajority (s.line l).sup.samples)
    (hf : (s.line l).sup.filteredOffHook = true) :
    exec (.filteredOnHookEdge l) s = .next (s.modSup l (onHookEdge (s.line l).ms)) :=
  congrArg Host.Outcome.next (if_pos ((edgeDue_false_iff _).mpr ⟨hm, hf⟩))

/-- Settles O31. -/
theorem hookReadingsAndEdges : Obligations.HookReadingsAndEdges := by
  intro l s
  refine ⟨fun off => ?_, fun hm hf hs => ?_, fun hm hf => ?_, fun hnot => ?_, fun hnot => ?_⟩
  · exact congrArg Host.Outcome.next (modSup_congr (by rw [takeReading]; simp only [chatterPattern_eq, beingTimed]))
  · rw [exec_filteredOffHookEdge hm hf, offHookEdge_onHook hs]
  · rw [exec_filteredOnHookEdge hm hf]
    exact ⟨fun hs => congrArg Host.Outcome.next (modSup_congr (by simp only [onHookEdge, hs])),
      fun hs => congrArg Host.Outcome.next (modSup_congr (by simp only [onHookEdge, hs, beginBreak])),
      fun hs => congrArg Host.Outcome.next (modSup_congr (by simp only [onHookEdge, hs]))⟩
  · exact congrArg Host.Outcome.next (if_neg (mt (edgeDue_true_iff _).mp hnot))
  · refine congrArg Host.Outcome.next (if_neg (mt (edgeDue_false_iff _).mp ?_))
    rintro ⟨hm, hf⟩
    exact hnot.elim hm fun h => absurd (h.symm.trans hf) nofun

end Sys2Proof.Machine
end

section
/-! SUPPORT. Settled: SET_FEED sets, removes and applies the feed (R97, R98, R114, R151 to R162, R172). -/

namespace Sys2Proof.Machine

open Sys2Proof.Claim

/-! ### The judgement of a SET_FEED (R98) -/

theorem feedOf_feedByte (m : FeedMode) : feedOf (feedByte m) = some m := by cases m <;> rfl

theorem feedOf_above {b : Byte} (h : 3 < b.toNat) : feedOf b = none := by
  have hne (c : Byte) (hc : c.toNat ≤ 3) : b ≠ c := fun e => by
    rw [e] at h
    omega
  rw [feedOf, if_neg (hne 0 (by decide)), if_neg (hne 1 (by decide)), if_neg (hne 2 (by decide)),
    if_neg (hne 3 (by decide))]

theorem standbyRefused_iff (x : LineState) :
    standbyRefused x = true ↔ x.sup.state = .offHook ∨ x.sup.state = .inBreak ∨ x.cad.kind = .ring := by
  simp [standbyRefused, ringCadence, or_assoc]

theorem feedOnLine_refused {l : Line} {s : State}
    (h : (s.line l).sup.state = .offHook ∨ (s.line l).sup.state = .inBreak ∨ (s.line l).cad.kind = .ring) :
    feedOnLine 2 l s = refuse .wrongState s := by
  have hstandby : feedOf 2 = some .standby := feedOf_feedByte .standby
  simp only [feedOnLine, hstandby, (standbyRefused_iff _).mpr h]
  rfl

theorem feedOnLine_accepted {m : FeedMode} {l : Line} {s : State} (h : ¬ (m = .standby ∧
      ((s.line l).sup.state = .offHook ∨ (s.line l).sup.state = .inBreak ∨ (s.line l).cad.kind = .ring))) :
    feedOnLine (feedByte m) l s = accept (changeFeed l m s) := by
  have hallowed : ¬ (decide (m = .standby) && standbyRefused (s.line l)) = true := by
    rwa [Bool.and_eq_true, decide_eq_true_iff, standbyRefused_iff]
  simp only [feedOnLine, feedOf_feedByte]
  exact if_neg hallowed

/-! ### The feed mode set and applied (R98, R159, R162) -/

/-- A change of the feed reaches the converter alone. -/
theorem feedChanged_modRing (t : State) : feedChanged t = t.modRing fun _ => (feedChanged t).ring := by
  rcases feedChanged_cases t with ⟨-, h⟩ | ⟨-, -, -, h⟩ | ⟨-, h⟩ <;> rw [h] <;> rfl

theorem setFeedMode_eq {l : Line} {m : FeedMode} {s : State} (h : (s.line l).sup.feed ≠ m) : setFeedMode l m s
    = (s.modSup l fun v => { v with feed := m }).modRing fun _ => feedJudged l m s := by
  rw [setFeedMode, if_neg h, feedChanged_modRing, feedChanged_ring]

theorem modRing_modLine (s : State) (f : RingArbiter → RingArbiter) (l : Line) (g : LineState → LineState) :
    (s.modRing f).modLine l g = (s.modLine l g).modRing f := by cases l <;> rfl

theorem applyFeed_eq {l : Line} {m : FeedMode} {s : State} (h : (s.line l).sup.feed ≠ m) : applyFeed l m s
    = (s.modSup l fun v => { v with
        feed := m, state := .onHook
        qualification := if v.filteredOffHook
          then some { start := (s.line l).ms, offQualify := v.timing.offQualify } else none
        overcurrentTimer := if v.overcurrent then some (s.line l).ms else none }).modRing fun _ => feedJudged l m s := by
  rw [applyFeed, setFeedMode_eq h, modRing_modLine]
  exact congrArg (State.modRing · _) ((modLine_comp ..).trans (modLine_congr rfl))

/-! ### The feed removed (R98) -/

/-- The removed feed is judged as the mode OFF is. -/
theorem unfed_ring (l : Line) (s : State) : (unfed l s).ring = feedJudged l .off s := by
  have hsplit : s.modSup l feedTaken = (s.modSup l feedTaken).modSup l fun v => { v with feed := .off } :=
    ((modSup_comp ..).trans (modSup_congr rfl)).symm
  rw [unfed, hsplit, feedChanged_ring, feedJudged_modSup]

theorem ringWork_unfed (l : Line) (s : State) : RingWork s (unfed l s) :=
  (ringWork_modLine s l _).trans (ringWork_feedChanged _)

theorem line_unfed_other (l : Line) (s : State) : (unfed l s).line (otherLine l) = s.line (otherLine l) := by
  rw [unfed, line_feedChanged, line_modSup_other _ _ _ _ (otherLine_ne l)]

/-- While its ring cadence runs and nothing is kept warm, the removed feed does not reach the converter. -/
theorem unfed_ringing {l : Line} {s : State} (hr : (s.line l).cad.kind = .ring) (hk : s.ring.keepWarm = none) :
    unfed l s = s.modSup l feedTaken := by
  have hkind : ((s.modSup l feedTaken).line l).cad.kind = .ring := by rw [line_modSup_same]; exact hr
  rcases feedChanged_cases (s.modSup l feedTaken) with ⟨hstands, -⟩ | ⟨-, hwarm, -⟩ | ⟨-, h⟩
  · rw [judgementStands, Bool.and_eq_true, nobodyRings_eq l] at hstands
    exact absurd hkind hstands.2.2.1
  · rw [modSup_ring, hk] at hwarm
    cases hwarm
  · exact h

/-- A transmission that a stop aborts is noticed (R172). -/
theorem noticed_stopCallerId {l : Line} {s : State} (h : (s.line l).cid.state ≠ .idle) : Noticed l s (stopCallerId l s) := by
  rw [stopCallerId, if_pos (show inTransmission (s.line l).cid = true from decide_eq_true h)]
  exact (noticed_storePlain ..).mono (by rw [line_modCid_same]) fun _ _ hn => hn

theorem noticed_cadenceStopped {l : Line} {s : State} (hr : (s.line l).cad.kind = .ring) (h : (s.line l).cid.state ≠ .idle) :
    Noticed l s (cadenceStopped l s) := by
  obtain ⟨t, ht⟩ := line_endRinging true l l s
  rw [cadenceStopped_ring hr]
  exact (noticed_stopCallerId (s := endRinging true l s) (by rw [ht]; exact h)).mono (by rw [ht])
    (ringWork_endCadence l _).part.stays

/-- A quiet line leaves no event of its detectors when its feed is removed. -/
theorem removeFeed_quiet {l : Line} {s : State} (h : Quiet (s.line l)) : removeFeed l s
    = (cadenceStopped l (unfed l s)).modLine l fun x =>
        { x with det := followedDetectors (cadenceStopped l (unfed l s)).tick x } := by
  obtain ⟨c, hc, -, -⟩ := line_cadenceStopped l (unfed l s)
  rw [removeFeed_eq]
  refine followDetectors_of_silent (stopFindings_of_quiet ?_)
  rw [hc, line_unfed]
  exact quiet_of_det h rfl rfl

/-- What the removal of the feed leaves of a quiet line, `c` and `det` being its cadence engine and detectors. -/
def unfedLine (c : CadenceEngine) (det : Detectors) (x : LineState) : LineState :=
  { x with
    sup := feedTaken x.sup
    det := det
    cad := c
    cid := if x.cad.kind = .ring then dropTransmission x.cid else x.cid
    events := if x.cad.kind = .ring then afterAbort x else x.events }

theorem line_removeFeed {l : Line} {s : State} (h : Quiet (s.line l)) :
    ∃ c, c.kind = .none ∧ ∃ det, (removeFeed l s).line l = unfedLine c det (s.line l) := by
  obtain ⟨c, hc, hk, -⟩ := line_cadenceStopped l (unfed l s)
  rw [line_unfed] at hc
  exact ⟨c, hk, _, by rw [removeFeed_quiet h, line_modLine_same, hc]; rfl⟩

/-- Once its cadence has stopped, the removal works on the line alone. -/
theorem lineWork_removeFeed {l : Line} {s : State} (h : Quiet (s.line l)) :
    LineWork l (cadenceStopped l (unfed l s)) (removeFeed l s) := by
  rw [removeFeed_quiet h]
  exact lineWork_modLine ..

theorem ringWork_stopTone (l : Line) (s : State) : RingWork s (stopTone l s) := by
  rw [stopTone_eq]
  split
  · exact ringWork_modLine ..
  · exact .refl s

/-- Without a ring cadence the removal of the feed reaches the line and the converter's judgement alone. -/
theorem removeFeed_notRing {l : Line} {s : State} (hq : Quiet (s.line l)) (hr : (s.line l).cad.kind ≠ .ring) :
    (removeFeed l s).ring = feedJudged l .off s ∧ (removeFeed l s).line (otherLine l) = s.line (otherLine l)
      ∧ RingWork s (removeFeed l s) := by
  have hstop : cadenceStopped l (unfed l s) = stopTone l (unfed l s) :=
    cadenceStopped_notRing (by rw [line_unfed]; exact hr)
  have htone := lineWork_stopTone l (unfed l s)
  have hlast := lineWork_removeFeed hq
  rw [hstop] at hlast
  refine ⟨hlast.ring.trans (htone.ring.trans (unfed_ring l s)),
    hlast.other.trans (htone.other.trans (line_unfed_other l s)), ?_⟩
  rw [removeFeed_quiet hq, hstop]
  exact (ringWork_unfed l s).trans ((ringWork_stopTone l _).trans (ringWork_modLine ..))

/-- A running ring cadence stops as the claims say it, with the feed mode OFF. -/
theorem removeFeed_ringing {l : Line} {s : State} (hq : Quiet (s.line l)) (hr : (s.line l).cad.kind = .ring)
    (hk : s.ring.keepWarm = none) (h : ListSound l s) :
    (removeFeed l s).ring = ringStopped l .off s ∧ (removeFeed l s).line (otherLine l) = otherAfterStop l s := by
  have hlast := lineWork_removeFeed hq
  rw [unfed_ringing hr hk] at hlast
  obtain ⟨hring, hother⟩ := cadenceStopped_stopped (l := l) (s := s.modSup l feedTaken)
    (by rw [line_modSup_same]; exact hr) (by simpa [ListSound] using h)
  refine ⟨hlast.ring.trans (hring.trans ?_), hlast.other.trans (hother.trans (otherAfterStop_modSup ..))⟩
  rw [ringStopped_modSup, line_modSup_same]
  rfl

theorem partWork_removeFeed {l : Line} {s : State} (hq : Quiet (s.line l)) : PartWork s (removeFeed l s) :=
  ((ringWork_unfed l s).part.trans (partWork_cadenceStopped l _)).trans (lineWork_removeFeed hq).part

theorem noticed_removeFeed {l : Line} {s : State} (hq : Quiet (s.line l)) (hr : (s.line l).cad.kind = .ring)
    (h : (s.line l).cid.state ≠ .idle) : Noticed l s (removeFeed l s) := by
  have hline := line_unfed l s
  exact (noticed_cadenceStopped (s := unfed l s) (by rw [hline]; exact hr) (by rw [hline]; exact h)).mono (by rw [hline])
    (lineWork_removeFeed hq).stays

/-! ### SET_FEED -/

/-- Settles O29: the four effects of an accepted SET_FEED, and its two refusals. -/
theorem feedFollowsSetFeed : Obligations.FeedFollowsSetFeed := by
  intro p tag mode l s hf ho
  have hexec : exec (.setFeed p tag (lineByte l) mode) s = .next (answered p tag 0x20 (feedOnLine mode l s)) :=
    congrArg Host.Outcome.next (issue_owned hf ho _ _)
  refine ⟨fun habove => ?_, fun h2 hbusy => ?_, fun m hm hallowed => ?_⟩
  · rw [hexec, feedOnLine, feedOf_above habove]
    rfl
  · rw [hexec, h2, feedOnLine_refused hbusy, answered_refuse]
  subst hm
  have haccepted : exec (.setFeed p tag (lineByte l) (feedByte m)) s
      = .next (replied p tag 0x20 .ok [] (changeFeed l m s)) := by
    rw [hexec, feedOnLine_accepted hallowed, answered_accept]
  rw [haccepted]
  refine ⟨fun hsame => ?_, fun hne hm hoff => ?_, fun hoff hm hq => ?_, fun hoff hm => ?_⟩
  · rw [changeFeed, if_pos hsame]
  · rw [changeFeed, if_neg hne, if_neg hm, if_neg hoff, setFeedMode_eq hne]
    rfl
  · subst hm
    obtain ⟨c, hk, det, hline⟩ := line_removeFeed hq
    have hpart := partWork_removeFeed hq
    refine ⟨removeFeed l s, by rw [changeFeed, if_neg hoff, if_pos rfl], ?_⟩
    rw [hline]
    refine ⟨rfl, ⟨rfl, rfl, rfl, rfl, rfl, rfl, rfl, rfl, rfl, rfl, rfl⟩, rfl, rfl, rfl, hk, ⟨rfl, rfl, rfl, rfl, rfl, rfl, rfl⟩,
      ⟨rfl, rfl, rfl, rfl⟩, hpart.rest, fun hr => ?_, fun hr hwarm h => ?_⟩
    · obtain ⟨hring, hother, hwork⟩ := removeFeed_notRing hq hr
      exact ⟨if_neg hr, if_neg hr, hring, hother, hwork.portA, hwork.portB⟩
    · obtain ⟨hring, hother⟩ := removeFeed_ringing hq hr hwarm h
      refine ⟨if_pos hr, ?_, ?_, hring, hother, noticed_removeFeed hq hr, hpart.ports⟩
      · simp only [unfedLine, if_pos hr, dropTransmission]
      · simp only [unfedLine, if_pos hr, dropTransmission]
  · have hne : (s.line l).sup.feed ≠ m := fun h => hm (h.symm.trans hoff)
    rw [changeFeed, if_neg hne, if_neg hm, if_pos hoff, applyFeed_eq hne]
    rfl

end Sys2Proof.Machine
end

section
/-! SUPPORT. Settled: RING_START starts the ring cadence with its request (R139, R141, R150 to R156). Every step of a start says what the
line, the other line and the converter become; the rest of the part is the same. -/

namespace Sys2Proof.Machine

open Sys2Proof.Claim

/-! ### Work on lines and converter, said whole -/

/-- Lines and converter determine what work on them leaves. -/
theorem RingWork.eq {s u v : State} (hu : RingWork s u) (hv : RingWork s v) (hl : ∀ l, u.line l = v.line l)
    (hr : u.ring = v.ring) : u = v := by
  obtain ⟨⟨hsteps, hpairs, htick, hpending⟩, ha, hb⟩ := hu
  obtain ⟨⟨ksteps, kpairs, ktick, kpending⟩, ka, kb⟩ := hv
  have h1 : u.line1 = v.line1 := hl .one
  have h2 : u.line2 = v.line2 := hl .two
  cases u
  cases v
  simp_all

/-- From `s` to `u` line `l` becomes `x`, the other line `y` and the converter `a`, and nothing else differs. -/
structure Becomes (l : Line) (s u : State) (x y : LineState) (a : RingArbiter) : Prop where
  line : u.line l = x
  other : u.line (otherLine l) = y
  ring : u.ring = a
  work : RingWork s u

theorem Becomes.eq_both {l : Line} {s u : State} {f g : LineState → LineState} {a : RingArbiter}
    (h : Becomes l s u (f (s.line l)) (g (s.line (otherLine l))) a) :
    u = ((s.modLine l f).modLine (otherLine l) g).modRing fun _ => a := by
  refine h.work.eq ((ringWork_modLine s l f).trans ((ringWork_modLine _ _ g).trans (ringWork_modRing _ _))) (fun m => ?_)
    (by rw [h.ring, modRing_ring])
  rw [line_modRing]
  by_cases hm : m = l
  · subst hm
    rw [h.line, line_modLine_other _ _ _ _ (otherLine_ne m).symm, line_modLine_same]
  · rw [eq_otherLine hm, h.other, line_modLine_same, line_modLine_other _ _ _ _ (otherLine_ne l)]

theorem Becomes.eq_line {l : Line} {s u : State} {f : LineState → LineState} {a : RingArbiter}
    (h : Becomes l s u (f (s.line l)) (s.line (otherLine l)) a) : u = (s.modLine l f).modRing fun _ => a := by
  refine h.work.eq ((ringWork_modLine s l f).trans (ringWork_modRing _ _)) (fun m => ?_) (by rw [h.ring, modRing_ring])
  rw [line_modRing]
  by_cases hm : m = l
  · subst hm
    rw [h.line, line_modLine_same]
  · rw [eq_otherLine hm, h.other, line_modLine_other _ _ _ _ (otherLine_ne l)]

theorem modLine_modRing_self (s : State) (l : Line) (f : LineState → LineState) :
    (s.modLine l f).modRing (fun _ => s.ring) = s.modLine l f := by cases l <;> rfl

/-- A further change of the line and of the converter. -/
theorem Becomes.modLine {l : Line} {s t : State} {x y : LineState} {a : RingArbiter} (h : Becomes l s t x y a)
    (f : LineState → LineState) : Becomes l s (t.modLine l f) (f x) y a where
  line := by rw [line_modLine_same, h.line]
  other := by rw [line_modLine_other _ _ _ _ (otherLine_ne l), h.other]
  ring := by rw [modLine_ring, h.ring]
  work := h.work.trans (ringWork_modLine t l f)

theorem Becomes.modRing {l : Line} {s t : State} {x y : LineState} {a : RingArbiter} (h : Becomes l s t x y a)
    (f : RingArbiter → RingArbiter) : Becomes l s (t.modRing f) x y (f a) where
  line := by rw [line_modRing, h.line]
  other := by rw [line_modRing, h.other]
  ring := by rw [modRing_ring, h.ring]
  work := h.work.trans (ringWork_modRing t f)

/-! ### The stop before the start (R139, R156) -/

/-- A full feed on a line, with no end of a ring cadence marked at this moment, is not judged (R159, R162). -/
theorem feedJudged_full {l : Line} {m : FeedMode} {s : State} (hm : fullFeed m = true) (h : s.ring.judgedNow = false) :
    feedJudged l m s = s.ring := by
  simp [feedJudged, hm, h]

/-- The waking line (R99). -/
theorem becomes_wake {l : Line} {s : State} (h : s.ring.judgedNow = false) : Becomes l s (wake l s)
    { s.line l with sup := { (s.line l).sup with feed := wokenFeed (s.line l).sup.feed } } (s.line (otherLine l)) s.ring where
  line := line_wake_same l s
  other := line_wake_other l s
  ring := by rw [wake_ring, feedJudged_full rfl h, ite_self]
  work := ringWork_wake l s

theorem wake_of_full {l : Line} {s : State} (h : fullFeed (s.line l).sup.feed = true) : wake l s = s :=
  if_neg fun hs => absurd (hs ▸ h) nofun

theorem stopRing_none {l : Line} {s : State} (h : (s.line l).cad.kind ≠ .ring) : stopRing l s = s :=
  if_neg (by simpa [ringCadence] using h)

/-- A ring cadence stops without a transmission: the record is discarded, the converter follows (R145, R156, R171). -/
theorem becomes_stopRing {l : Line} {s : State} (hr : (s.line l).cad.kind = .ring) (hx : (s.line l).cid.state = .idle)
    (h : ListSound l s) : Becomes l s (stopRing l s)
      { s.line l with cid := dropTransmission (s.line l).cid, cad := endedEngine (s.line l).cad }
      (otherAfterStop l s) (ringStopped l (s.line l).sup.feed s) := by
  obtain ⟨t, ht⟩ := line_endRinging true l l s
  have hstop : stopRing l s = endCadence l (stopCallerId l (endRinging true l s)) := if_pos (decide_eq_true hr)
  have hcadence : cadenceStopped l s = stopRing l s := (cadenceStopped_ring hr).trans hstop.symm
  obtain ⟨hring, hother⟩ := cadenceStopped_stopped hr h
  have hsilent : stopCallerId l (endRinging true l s) = (endRinging true l s).modCid l dropTransmission :=
    if_neg (by rw [inTransmission, ht]; simpa using hx)
  rw [hcadence] at hring hother
  refine ⟨?_, hother, hring, ?_⟩
  · rw [hstop, hsilent, line_endCadence_same, line_modCid_same, ht]
    rfl
  · rw [hstop, hsilent]
    exact (ringWork_endRinging true l s).trans ((ringWork_modLine _ l _).trans (ringWork_endCadence l _))

/-! ### The first step (R139, R141) -/

theorem stepIndex_eq {b : Byte} {i : Fin 64} (h : i.val = b.toNat) : stepIndex b = some i := by
  have hi := i.isLt
  rw [stepIndex, dif_pos (by omega)]
  exact congrArg some (Fin.ext h.symm)

theorem stepIndex_above {b : Byte} (h : 63 < b.toNat) : stepIndex b = none := dif_neg (by omega)

/-- A ring cadence has begun at a step, and nothing is kept warm (R139, R159). -/
def begun (l : Line) (i : Fin 64) (e : CadenceStep) (timer : Word → Option Timer) (s : State) : State :=
  (s.modLine l fun x => { x with cad := ringBegun i e (timer x.ms) x.cad }).modRing fun a =>
    { a with keepWarm := none, judgedNow := false }

theorem Becomes.begun {l : Line} {s t : State} {x y : LineState} {a : RingArbiter} (h : Becomes l s t x y a) (i : Fin 64)
    (e : CadenceStep) (timer : Word → Option Timer) : Becomes l s (begun l i e timer t)
      { x with cad := ringBegun i e (timer x.ms) x.cad } y { a with keepWarm := none, judgedNow := false } :=
  (h.modLine _).modRing _

/-- The engine as a ring cadence starts, before its first step begins. -/
def startedAt (i : Fin 64) (c : CadenceEngine) : CadenceEngine :=
  { c with kind := .ring, index := i, current := i, inHand := none, timer := none, loop := none, zeroRun := 0 }

theorem startCadence_ring_eq (l : Line) (i : Fin 64) (s : State) : startCadence .ring l i s
    = beginStep l none stepFuel i ((s.modCad l (startedAt i)).modRing fun a =>
        { a with keepWarm := none, judgedNow := false }) := rfl

theorem stepEffect_ring {x : LineState} {i : Fin 64} {e : CadenceStep} (he : e.action = .ring) (hk : x.cad.kind = .ring) :
    stepEffect x i e = .ring := by
  simp only [stepEffect, he, hk]

/-- At a RING step the start asks for a burst, the step timer stopped. -/
theorem startCadence_asks {l : Line} {i : Fin 64} {s : State} {e : CadenceStep} (hi : s.steps[i] = e)
    (he : e.action = .ring) : startCadence .ring l i s = ringRequest l (begun l i e (fun _ => none) s) := by
  subst hi
  have heffect : stepEffect (((s.modCad l (startedAt i)).modRing fun a =>
      { a with keepWarm := none, judgedNow := false }).line l) i s.steps[i] = .ring := by
    rw [line_modRing, line_modCad_same]
    exact stepEffect_ring he rfl
  rw [startCadence_ring_eq, stepFuel, beginStep]
  simp only [modRing_steps, modCad_steps, heffect, beginRing]
  refine congrArg (ringRequest l) ?_
  cases l <;> rfl

/-- At a QUIET step the timer runs at once. -/
theorem startCadence_times {l : Line} {i : Fin 64} {s : State} {e : CadenceStep} (hi : s.steps[i] = e)
    (he : e.action = .quiet) : startCadence .ring l i s
      = begun l i e (fun now => some { start := now, length := 10 * e.duration }) s := by
  subst hi
  have hsteps : ((s.modCad l (startedAt i)).modRing fun a =>
      { a with keepWarm := none, judgedNow := false }).steps[i] = s.steps[i] := by
    simp only [modRing_steps, modCad_steps]
  rw [startCadence_ring_eq, stepFuel, beginStep_timed (stepEffect_quiet _ i (by rw [hsteps]; exact he)), hsteps]
  cases l <;> rfl

/-! ### The request (R150) -/

/-- A converter OFF starts. -/
theorem Becomes.starts {l : Line} {s t : State} {x y : LineState} {a : RingArbiter} (h : Becomes l s t x y a)
    (hc : a.converter = .off) : Becomes l s (ringRequest l t) x y
      { a with converter := .starting, startTimer := some 0, waitList := a.waitList ++ [l] } := by
  have hreq : ringRequest l t = (t.modRing fun a => { a with waitList := a.waitList ++ [l] }).modRing fun a =>
      { a with converter := .starting, startTimer := some 0 } := by
    simp only [ringRequest, h.ring, hc]
  rw [hreq]
  exact (h.modRing _).modRing _

/-- At a converter STARTING or DRIVING the line waits. -/
theorem Becomes.waits {l : Line} {s t : State} {x y : LineState} {a : RingArbiter} (h : Becomes l s t x y a)
    (hc : a.converter = .starting ∨ a.converter = .driving (otherLine l)) :
    Becomes l s (ringRequest l t) x y { a with waitList := a.waitList ++ [l] } := by
  have hreq : ringRequest l t = t.modRing fun a => { a with waitList := a.waitList ++ [l] } := by
    obtain hc | hc := hc <;> simp only [ringRequest, h.ring, hc]
  rw [hreq]
  exact h.modRing _

/-- A converter READY with nobody waiting is granted at once (R152). -/
theorem Becomes.granted {l : Line} {s t : State} {x y : LineState} {a : RingArbiter} (h : Becomes l s t x y a)
    (hc : a.converter = .ready) (hw : a.waitList = []) : Becomes l s (ringRequest l t) (granted x) y
      { a with converter := .driving l, waitList := [], keepWarm := none } := by
  have hreq : ringRequest l t = (((t.modRing fun a => { a with waitList := a.waitList ++ [l] }).modRing fun a =>
      { a with keepWarm := none }).modRing fun a =>
        { a with converter := .driving l, waitList := [], keepWarm := none }).modLine l Claim.granted := by
    simp only [ringRequest, h.ring, hc, grantHead, modRing_ring, hw, List.nil_append]
    rfl
  rw [hreq]
  exact (((h.modRing _).modRing _).modRing _).modLine _

/-! ### The qualification (R102) -/

/-- Beside a ring cadence no qualification of less than 15 ms completes. -/
theorem settleQualification_short {l : Line} {s : State} (hk : (s.line l).cad.kind = .ring)
    (hq : ∀ q, (s.line l).sup.qualification = some q → ((s.line l).ms - q.start).toNat < 15) :
    settleQualification l s = s := by
  refine if_neg fun hdue => ?_
  have hr : ringCadence (s.line l) = true := decide_eq_true hk
  rw [qualificationDue, hr, Bool.and_eq_true, qualifiedFor] at hdue
  cases hc : (s.line l).sup.qualification with
  | none => simp [hc] at hdue
  | some q =>
    have hlong : 15 ≤ elapsed (s.line l).ms q.start := by simpa [hc, Config.ringQualifyMs] using hdue.2
    exact absurd (hq q hc) (Nat.not_lt.mpr hlong)

theorem Becomes.settled {l : Line} {s u : State} {x y : LineState} {a : RingArbiter} (h : Becomes l s u x y a)
    (hk : x.cad.kind = .ring) (hq : ∀ q, x.sup.qualification = some q → (x.ms - q.start).toNat < 15) :
    Becomes l s (settleQualification l u) x y a := by
  rw [settleQualification_short (by rw [h.line]; exact hk) (by rw [h.line]; exact hq)]
  exact h

end Sys2Proof.Machine
end

section
/-! SUPPORT. Settled: RING_START starts the ring cadence with its request: the start of a line without a cadence, the start anew of one
that rings, and the ring trip that a long qualification makes of a start (R102, R103, R139). -/

namespace Sys2Proof.Machine

open Sys2Proof.Claim

/-! ### RING_START as judged -/

theorem exec_ringStart {p : Port} {tag step : Byte} {l : Line} {s : State} (hf : Free s p) (ho : (s.line l).owner = some p) :
    exec (.ringStart p tag (lineByte l) step) s = .next (answered p tag 0x30 (ringStartOnLine step l s)) :=
  congrArg Host.Outcome.next (issue_owned hf ho _ _)

theorem exec_ringStart_accepted {p : Port} {tag step : Byte} {l : Line} {s : State} {i : Fin 64} (hf : Free s p)
    (ho : (s.line l).owner = some p) (hs : (s.line l).sup.state = .onHook) (hi : i.val = step.toNat) :
    exec (.ringStart p tag (lineByte l) step) s = .next (replied p tag 0x30 .ok [] (startRing l i s)) := by
  simp only [exec_ringStart hf ho, ringStartOnLine, hs, ne_eq, not_true_eq_false, if_false, stepIndex_eq hi, answered_accept]

/-- No qualification of 15 ms or more is under way (R102). -/
def ShortOffHook (x : LineState) : Prop := ∀ q, x.sup.qualification = some q → (x.ms - q.start).toNat < 15

/-! ### The start of a line without a cadence -/

/-- The line woken, with a ring cadence begun. -/
def ringingLine (i : Fin 64) (e : CadenceStep) (timer : Option Timer) (x : LineState) : LineState :=
  { x with sup := { x.sup with feed := wokenFeed x.sup.feed }, cad := ringBegun i e timer x.cad }

theorem begun_fresh {l : Line} {s : State} (hj : s.ring.judgedNow = false) (i : Fin 64) (e : CadenceStep)
    (timer : Word → Option Timer) : Becomes l s (begun l i e timer (wake l s))
      (ringingLine i e (timer (s.line l).ms) (s.line l)) (s.line (otherLine l)) { s.ring with keepWarm := none } := by
  have h := (becomes_wake (l := l) hj).begun i e timer
  rw [← hj] at h
  exact h

theorem startRing_fresh {l : Line} {s : State} {i : Fin 64} {e : CadenceStep} (hk : (s.line l).cad.kind = .none)
    (hi : s.steps[i] = e) (he : e.action = .ring) : startRing l i s
      = settleQualification l (ringRequest l (begun l i e (fun _ => none) (wake l s))) := by
  have hsteps : (wake l s).steps[i] = e := by rw [(ringWork_wake l s).rest.1, hi]
  rw [startRing, stopRing_none (by rw [hk]; nofun), startCadence_asks hsteps he]

theorem startRing_quiet {l : Line} {s : State} {i : Fin 64} {e : CadenceStep} (hk : (s.line l).cad.kind = .none)
    (hi : s.steps[i] = e) (he : e.action = .quiet) : startRing l i s = settleQualification l
      (begun l i e (fun now => some { start := now, length := 10 * e.duration }) (wake l s)) := by
  have hsteps : (wake l s).steps[i] = e := by rw [(ringWork_wake l s).rest.1, hi]
  rw [startRing, stopRing_none (by rw [hk]; nofun), startCadence_times hsteps he]

/-! ### The start anew of a ringing line -/

/-- The line with its record discarded and its ring cadence begun anew. -/
def rungAnew (i : Fin 64) (e : CadenceStep) (timer : Option Timer) (x : LineState) : LineState :=
  { x with cid := dropTransmission x.cid, cad := ringBegun i e timer x.cad }

theorem startRing_anew {l : Line} {s : State} {i : Fin 64} {e : CadenceStep} (hr : (s.line l).cad.kind = .ring)
    (hx : (s.line l).cid.state = .idle) (hfull : fullFeed (s.line l).sup.feed = true) (h : ListSound l s)
    (hi : s.steps[i] = e) (he : e.action = .ring) : startRing l i s
      = settleQualification l (ringRequest l (begun l i e (fun _ => none) (stopRing l s))) := by
  have hstop := becomes_stopRing hr hx h
  have hwake : wake l (stopRing l s) = stopRing l s := wake_of_full (by rw [hstop.line]; exact hfull)
  have hsteps : (stopRing l s).steps[i] = e := by rw [hstop.work.rest.1, hi]
  rw [startRing, hwake, startCadence_asks hsteps he]

theorem begun_anew {l : Line} {s : State} (hr : (s.line l).cad.kind = .ring) (hx : (s.line l).cid.state = .idle)
    (h : ListSound l s) (i : Fin 64) (e : CadenceStep) : Becomes l s (begun l i e (fun _ => none) (stopRing l s))
      (rungAnew i e none (s.line l)) (otherAfterStop l s)
      { ringStopped l (s.line l).sup.feed s with keepWarm := none, judgedNow := false } :=
  (becomes_stopRing hr hx h).begun i e fun _ => none

theorem dropTransmission_idle {c : CallerIdTx} (h : c.state = .idle) :
    dropTransmission c = { c with loaded := none, bitPos := 0, accumulator := 0, samplesLeft := 0 } := by
  rw [dropTransmission, h]

/-! The converter after each stop, the line's feed being full. -/

/-- In BURST with nobody waiting: READY, and kept warm if no other cadence rings. -/
theorem ringStopped_alone {l : Line} {s : State} (hd : s.ring.converter = .driving l) (hw : s.ring.waitList = [])
    (hfull : fullFeed (s.line l).sup.feed = true) :
    ∃ warm now, ringStopped l (s.line l).sup.feed s
      = { s.ring with converter := .ready, keepWarm := warm, judgedNow := now } := by
  simp only [ringStopped, hd, hw, hfull, Bool.true_or, if_true, judged]
  split
  · exact ⟨_, _, rfl⟩
  · exact ⟨_, _, rfl⟩

/-- In BURST with the other line waiting: that line is granted. -/
theorem ringStopped_handed {l : Line} {s : State} (m : FeedMode) (hd : s.ring.converter = .driving l)
    (hw : s.ring.waitList = [otherLine l]) : ringStopped l m s
      = { s.ring with converter := .driving (otherLine l), waitList := [], keepWarm := none } := by
  simp only [ringStopped, hd, hw, if_true]

/-- Waiting for another's burst or for a start: the entry is withdrawn. -/
theorem ringStopped_withdrawn {l : Line} {s : State} (m : FeedMode)
    (hc : s.ring.converter = .starting ∨ s.ring.converter = .driving (otherLine l)) : ringStopped l m s
      = { s.ring with waitList := s.ring.waitList.filter fun k => decide (k ≠ l) } := by
  have hd : s.ring.converter ≠ .driving l := by
    obtain hc | hc := hc <;> rw [hc]
    · nofun
    · exact fun e => otherLine_ne l (by injection e)
  have hready : s.ring.converter ≠ .ready := by
    obtain hc | hc := hc <;> rw [hc] <;> nofun
  simp only [ringStopped, if_neg hd, hready, false_and, if_false]

theorem otherAfterStop_same {l : Line} {s : State} (h : ¬ (s.ring.converter = .driving l ∧ s.ring.waitList ≠ [])) :
    otherAfterStop l s = s.line (otherLine l) := if_neg h

/-! ### The outcomes of a start -/

section fresh

variable {l : Line} {s : State} {i : Fin 64} {e : CadenceStep} (hk : (s.line l).cad.kind = .none)
  (hq : ShortOffHook (s.line l)) (hj : s.ring.judgedNow = false) (hi : s.steps[i] = e)

include hk hq hj hi

theorem startRing_starts (he : e.action = .ring) (hw : s.ring.waitList = []) (hc : s.ring.converter = .off) :
    startRing l i s = (s.modLine l (ringingLine i e none)).modRing fun _ =>
      { s.ring with converter := .starting, startTimer := some 0, waitList := [l], keepWarm := none } := by
  have h := ((begun_fresh hj i e fun _ => none).starts hc).settled rfl hq
  rw [startRing_fresh hk hi he, h.eq_line (f := ringingLine i e none)]
  simp only [hw, List.nil_append]

theorem startRing_granted (he : e.action = .ring) (hw : s.ring.waitList = []) (hc : s.ring.converter = .ready) :
    startRing l i s = (s.modLine l fun x => ringingLine i e (some { start := x.ms, length := 10 * e.duration }) x).modRing
      fun _ => { s.ring with converter := .driving l, keepWarm := none } := by
  have h := ((begun_fresh hj i e fun _ => none).granted hc hw).settled rfl hq
  rw [startRing_fresh hk hi he,
    h.eq_line (f := fun x => ringingLine i e (some { start := x.ms, length := 10 * e.duration }) x)]
  simp only [hw]

theorem startRing_waits (he : e.action = .ring)
    (hc : s.ring.converter = .starting ∨ s.ring.converter = .driving (otherLine l)) :
    startRing l i s = (s.modLine l (ringingLine i e none)).modRing fun _ =>
      { s.ring with waitList := s.ring.waitList ++ [l], keepWarm := none } := by
  have h := ((begun_fresh hj i e fun _ => none).waits hc).settled rfl hq
  rw [startRing_fresh hk hi he, h.eq_line (f := ringingLine i e none)]

theorem startRing_times (he : e.action = .quiet) :
    startRing l i s = (s.modLine l fun x => ringingLine i e (some { start := x.ms, length := 10 * e.duration }) x).modRing
      fun _ => { s.ring with keepWarm := none } := by
  have h := (begun_fresh hj i e fun now => some { start := now, length := 10 * e.duration }).settled rfl hq
  rw [startRing_quiet hk hi he,
    h.eq_line (f := fun x => ringingLine i e (some { start := x.ms, length := 10 * e.duration }) x)]

end fresh

section anew

variable {l : Line} {s : State} {i : Fin 64} {e : CadenceStep} (hr : (s.line l).cad.kind = .ring)
  (hq : ShortOffHook (s.line l)) (hj : s.ring.judgedNow = false) (hi : s.steps[i] = e) (he : e.action = .ring)
  (hx : (s.line l).cid.state = .idle) (hfull : fullFeed (s.line l).sup.feed = true) (hwarm : s.ring.keepWarm = none)

include hr hq hj hi he hx hfull hwarm

/-- In BURST with nobody waiting the line is granted anew. -/
theorem startRing_grantedAnew (hd : s.ring.converter = .driving l) (hw : s.ring.waitList = []) :
    startRing l i s
      = s.modLine l fun x => rungAnew i e (some { start := x.ms, length := 10 * e.duration }) x := by
  have hsound : ListSound l s := fun _ => by rw [hw]; exact List.not_mem_nil
  obtain ⟨warm, now, hstop⟩ := ringStopped_alone hd hw hfull
  have hbegun := begun_anew hr hx hsound i e
  rw [hstop, otherAfterStop_same fun h => h.2 hw] at hbegun
  have h := (hbegun.granted rfl hw).settled rfl hq
  have hring : { s.ring with converter := .driving l, waitList := [], keepWarm := none, judgedNow := false } = s.ring := by
    rw [← hd, ← hw, ← hwarm, ← hj]
  rw [startRing_anew hr hx hfull hsound hi he,
    h.eq_line (f := fun x => rungAnew i e (some { start := x.ms, length := 10 * e.duration }) x)]
  exact (congrArg (fun a => State.modRing _ fun _ => a) hring).trans (modLine_modRing_self s l _)

/-- In BURST with the other line waiting, that line is granted and this one waits. -/
theorem startRing_handed (hd : s.ring.converter = .driving l) (hw : s.ring.waitList = [otherLine l]) :
    startRing l i s = ((s.modLine l (rungAnew i e none)).modLine (otherLine l) granted).modRing fun _ =>
      { s.ring with converter := .driving (otherLine l), waitList := [l] } := by
  have hsound : ListSound l s := fun _ => by
    rw [hw, List.mem_singleton]
    exact (otherLine_ne l).symm
  have hother : otherAfterStop l s = granted (s.line (otherLine l)) := if_pos ⟨hd, by rw [hw]; nofun⟩
  have hbegun := begun_anew hr hx hsound i e
  rw [ringStopped_handed _ hd hw, hother] at hbegun
  have h := (hbegun.waits (.inr rfl)).settled rfl hq
  rw [startRing_anew hr hx hfull hsound hi he, h.eq_both (f := rungAnew i e none) (g := granted)]
  simp only [hwarm, hj, List.nil_append]

/-- A waiting line goes to the tail. -/
theorem startRing_requeued (hc : s.ring.converter = .starting ∨ s.ring.converter = .driving (otherLine l)) :
    startRing l i s = (s.modLine l (rungAnew i e none)).modRing fun _ =>
      { s.ring with waitList := (s.ring.waitList.filter fun k => decide (k ≠ l)) ++ [l] } := by
  have hd : s.ring.converter ≠ .driving l := by
    obtain hc | hc := hc <;> rw [hc]
    · nofun
    · exact fun e => otherLine_ne l (by injection e)
  have hsound : ListSound l s := fun h => absurd h hd
  have hbegun := begun_anew hr hx hsound i e
  rw [ringStopped_withdrawn _ hc, otherAfterStop_same fun h => hd h.1] at hbegun
  have h := (hbegun.waits hc).settled rfl hq
  rw [startRing_anew hr hx hfull hsound hi he, h.eq_line (f := rungAnew i e none)]
  simp only [hwarm, hj]

end anew

/-! ### A start that trips at once (R102, R103) -/

/-- A qualification of 15 ms or more makes a ring trip of the start. -/
theorem startRing_trips {l : Line} {s : State} {i : Fin 64} {e : CadenceStep} {q : Qualification}
    (hk : (s.line l).cad.kind = .none) (hs : (s.line l).sup.state = .onHook)
    (hq : (s.line l).sup.qualification = some q) (hlong : 15 ≤ ((s.line l).ms - q.start).toNat) (hi : s.steps[i] = e)
    (he : e.action = .ring) {a : RingArbiter}
    (h : Becomes l s (ringRequest l (begun l i e (fun _ => none) (wake l s))) (ringingLine i e none (s.line l))
      (s.line (otherLine l)) a) :
    startRing l i s = ringTrip l (ringRequest l (begun l i e (fun _ => none) (wake l s))) := by
  have hring : ringCadence ((ringRequest l (begun l i e (fun _ => none) (wake l s))).line l) = true := by
    rw [h.line]
    rfl
  have hdue : qualificationDue ((ringRequest l (begun l i e (fun _ => none) (wake l s))).line l) = true := by
    refine qualificationDue_of (q := q) ?_ ?_ ?_
    · rw [h.line]; exact hs
    · rw [h.line]; exact hq
    · rw [hring, h.line]; exact hlong
  rw [startRing_fresh hk hi he, settleQualification, if_pos hdue, completeQualification, if_pos hring]

/-- What a ring trip leaves of an idle line that waits for a start, the tone detectors at rest with the channel. -/
structure Tripped (l : Line) (s u : State) : Prop where
  line : ∃ det, (u.line l) = { offHookLine true (s.line l) with
    cad := endedEngine (s.line l).cad, cid := dropTransmission (s.line l).cid, det := det }
  other : u.line (otherLine l) = s.line (otherLine l)
  ring : u.ring = { s.ring with waitList := s.ring.waitList.filter fun k => decide (k ≠ l) }
  work : PartWork s u
  noticed : Noticed l s u

theorem tripped_ringTrip {l : Line} {s : State} (hr : (s.line l).cad.kind = .ring) (hx : (s.line l).cid.state = .idle)
    (hc : s.ring.converter = .starting) (hrest : TonesRest (s.line l)) (hfeed : (s.line l).sup.feed ≠ .standby) :
    Tripped l s (ringTrip l s) := by
  have hd : s.ring.converter ≠ .driving l := by rw [hc]; nofun
  have hclear := line_ringCleared l s
  have hevents : afterAbort (s.line l) = (s.line l).events := if_pos hx
  obtain ⟨hring, hother⟩ := ringCleared_stopped hr fun h => absurd h hd
  have hw : WentOffHook l true (ringCleared l s) (ringTrip l s) := by
    rw [ringTrip_eq]
    exact goOffHook_went (by rw [hclear]; exact hrest)
  obtain ⟨det, hline⟩ := hw.line
  rw [hclear, hevents] at hline
  refine ⟨⟨det, hline⟩, hw.other.trans (hother.trans (otherAfterStop_same fun h => hd h.1)), ?_,
    (partWork_ringCleared l s).trans hw.work, hw.noticed.mono (by rw [hclear]) fun _ _ h => h⟩
  rw [hw.ring, hclear, if_neg hfeed, hring, ringStopped_withdrawn _ (.inl hc)]

theorem wokenFeed_woken (m : FeedMode) : wokenFeed (wokenFeed m) = wokenFeed m := by cases m <;> rfl

theorem wokenFeed_ne_standby (m : FeedMode) : wokenFeed m ≠ .standby := by cases m <;> nofun

/-! ### RING_START -/

/-- Settles O38: the two refusals, the start of a line without a cadence, the start anew, and the start that trips. -/
theorem ringStartRequests : Obligations.RingStartRequests := by
  intro p tag step l s hf ho
  refine ⟨fun hs => ?_, fun hs habove => ?_, fun i e feed now hstep hi hs hj hfeed hnow => ?_⟩
  · rw [exec_ringStart hf ho, ringStartOnLine, if_pos hs, answered_refuse]
  · simp only [exec_ringStart hf ho, ringStartOnLine, hs, ne_eq, not_true_eq_false, if_false, stepIndex_above habove,
      answered_refuse]
  subst hfeed hnow
  rw [exec_ringStart_accepted hf ho hs hstep]
  have hreply {u v : State} (h : u = v) : Host.Outcome.next (replied p tag 0x30 .ok [] u)
      = (.next (replied p tag 0x30 .ok [] v) : Outcome) := by rw [h]
  refine ⟨fun hk hq => ⟨fun he hw hc => hreply ?_, fun he hw hc => hreply ?_, fun he hwarm hc => hreply ?_, fun he => hreply ?_⟩,
    fun hr hq hx hfull hwarm he silent hsilent =>
      ⟨fun hd hw => hreply ?_, fun hd hw => hreply ?_, fun hc => hreply ?_⟩,
    fun q hk hq hlong hrest hx he hw hc => ⟨startRing l i s, rfl, ?_⟩⟩
  · rw [startRing_starts hk hq hj hi he hw hc]
    exact congrArg (State.modRing · _) (modLine_congr rfl)
  · rw [startRing_granted hk hq hj hi he hw hc]
    exact congrArg (State.modRing · _) (modLine_congr rfl)
  · rw [startRing_waits hk hq hj hi he hc]
    simp only [← hwarm]
    exact congrArg (State.modRing · _) (modLine_congr rfl)
  · rw [startRing_times hk hq hj hi he]
    exact congrArg (State.modRing · _) (modLine_congr rfl)
  · subst hsilent
    rw [startRing_grantedAnew hr hq hj hi he hx hfull hwarm hd hw]
    exact modLine_congr (by rw [rungAnew, dropTransmission_idle hx])
  · subst hsilent
    rw [startRing_handed hr hq hj hi he hx hfull hwarm hd hw]
    exact congrArg (fun t => (State.modLine t (otherLine l) granted).modRing _)
      (modLine_congr (by rw [rungAnew, dropTransmission_idle hx]))
  · subst hsilent
    rw [startRing_requeued hr hq hj hi he hx hfull hwarm hc]
    exact congrArg (State.modRing · _) (modLine_congr (by rw [rungAnew, dropTransmission_idle hx]))
  · have hbegun := (begun_fresh hj i e fun _ => none).starts (l := l) hc
    have htrip := tripped_ringTrip (l := l) (s := ringRequest l (begun l i e (fun _ => none) (wake l s)))
      (by rw [hbegun.line]; rfl) (by rw [hbegun.line]; exact hx) (by rw [hbegun.ring]) (by rw [hbegun.line]; exact hrest)
      (by rw [hbegun.line]; exact wokenFeed_ne_standby _)
    obtain ⟨det, hline⟩ := htrip.line
    have hpart := hbegun.work.part.trans htrip.work
    rw [hbegun.line] at hline
    rw [startRing_trips hk hs hq hlong hi he hbegun, hline]
    refine ⟨?_, rfl, rfl, rfl, ?_, ⟨rfl, rfl, rfl, rfl⟩, ⟨rfl, rfl, rfl, rfl, rfl, rfl, rfl⟩, htrip.other.trans hbegun.other,
      hpart.rest, htrip.noticed.mono (by rw [hbegun.line]; rfl) fun _ _ h => h, hpart.ports⟩
    · simp only [offHookLine, ringingLine, wokenFeed_woken]
      rfl
    · rw [htrip.ring, hbegun.ring]
      simp [hw]

end Sys2Proof.Machine
end

section
/-! SUPPORT. Settled: the shared table as a port reads and writes it (R129 to R136). -/

namespace Sys2Proof.Machine

open Sys2Proof.Claim

/-! ### The place of a pointer (R129, R130) -/

theorem entryPlace_step {i : Fin 80} (h : i.val < 64) : entryPlace i = .inl ⟨i.val, h⟩ := dif_pos h

theorem entryPlace_pair {i : Fin 80} (h : 64 ≤ i.val) (h' : i.val - 64 < 16) : entryPlace i = .inr ⟨i.val - 64, h'⟩ :=
  dif_neg (Nat.not_lt.mpr h)

theorem entryBytes_step {s : State} {i : Fin 80} (h : i.val < 64) : entryBytes s i = stepBytes s.steps[i.val] := by
  simp only [entryBytes, entryPlace_step h]
  rfl

theorem entryBytes_pair {s : State} {i : Fin 80} (h : 64 ≤ i.val) (h' : i.val - 64 < 16) :
    entryBytes s i = pairBytes s.pairs[i.val - 64] := by
  simp only [entryBytes, entryPlace_pair h h']
  rfl

/-! ### The bytes of a written entry (R134) -/

@[simp] theorem actionOf_actionByte (a : StepAction) : actionOf (actionByte a) = some a := by
  cases a <;> decide

theorem actionOf_above {b : Byte} (h : 5 < b.toNat) : actionOf b = none := by
  have hne (n : Byte) (hn : n.toNat ≤ 5) : b ≠ n := fun e => by rw [e] at h; omega
  simp only [actionOf, hne 0 (by decide), hne 1 (by decide), hne 2 (by decide), hne 3 (by decide), hne 4 (by decide),
    hne 5 (by decide), if_false]

@[simp] theorem byteOf_self (b : Byte) : byteOf b.toNat = b := by simp [byteOf]

/-- The step that six bytes with the action `a` are clamped to. -/
def clampedStep (a : StepAction) (e1 e2 e3 e4 e5 : Byte) : CadenceStep :=
  { action := a, tone := clampFin 15 e1, duration := clamp 1 (durationTop a) (e2.toNat * 256 + e3.toNat),
    target := clampFin 63 e4, count := e5.toNat }

theorem stepOfBytes_eq (a : StepAction) (e1 e2 e3 e4 e5 : Byte) :
    stepOfBytes (actionByte a) e1 e2 e3 e4 e5 = some (clampedStep a e1 e2 e3 e4 e5) := by
  simp only [stepOfBytes, actionOf_actionByte, Option.map_some, wordOf_toNat, clampedStep]

theorem durationTop_eq (a : StepAction) : durationTop a = if a = .ring then 300 else 2000 := by
  cases a <;> rfl

theorem writeEntry_step {s : State} {i : Fin 80} (h : i.val < 64) (a : StepAction) (e1 e2 e3 e4 e5 : Byte) :
    writeEntry i (actionByte a) e1 e2 e3 e4 e5 s
      = some { s with steps := s.steps.set i.val (clampedStep a e1 e2 e3 e4 e5) } := by
  simp only [writeEntry, entryPlace_step h, stepOfBytes_eq, Option.map_some]

theorem writeEntry_badAction {s : State} {i : Fin 80} (h : i.val < 64) {e0 : Byte} (h0 : 5 < e0.toNat)
    (e1 e2 e3 e4 e5 : Byte) : writeEntry i e0 e1 e2 e3 e4 e5 s = none := by
  simp only [writeEntry, entryPlace_step h, stepOfBytes, actionOf_above h0, Option.map_none]

theorem writeEntry_pair {s : State} {i : Fin 80} (h : 64 ≤ i.val) (h' : i.val - 64 < 16) (e0 e1 e2 e3 e4 e5 : Byte) :
    writeEntry i e0 e1 e2 e3 e4 e5 s
      = some { s with pairs := s.pairs.set (i.val - 64) (pairOfBytes e0 e1 e2 e3 e4) } := by
  simp only [writeEntry, entryPlace_pair h h']

/-! ### The commands as judged (R133 to R136) -/

/-- Changes of a port are the same where they give the port's own link the same value. -/
theorem modPort_congr {s : State} {p : Port} {f g : PortLink → PortLink} (h : f (s.port p) = g (s.port p)) :
    s.modPort p f = s.modPort p g := by
  cases p <;> simp only [State.modPort] <;> simp only [State.port] at h <;> rw [h]

theorem modPort_self (s : State) (p : Port) : s.modPort p id = s := by cases p <;> rfl

/-- A write that is taken answers with the entry as stored, and the pointer advances. -/
theorem doTableWrite_stored {p : Port} {e0 e1 e2 e3 e4 e5 : Byte} {s t : State}
    (h : writeEntry (s.port p).pointer e0 e1 e2 e3 e4 e5 s = some t) (hp : t.port p = s.port p) :
    doTableWrite p e0 e1 e2 e3 e4 e5 s = accept (t.modPort p fun q => { q with pointer := q.pointer + 1 })
      (byteOf (s.port p).pointer.val :: entryBytes t (s.port p).pointer) := by
  simp only [doTableWrite, h]
  exact congrArg (accept · _) (modPort_congr (by rw [hp]; rfl))

theorem doTableWrite_refused {p : Port} {e0 e1 e2 e3 e4 e5 : Byte} {s : State}
    (h : writeEntry (s.port p).pointer e0 e1 e2 e3 e4 e5 s = none) :
    doTableWrite p e0 e1 e2 e3 e4 e5 s = refuse .range s := by
  simp only [doTableWrite, h]

/-- A read gives the entry; the pointer advances unless hold keeps it. -/
theorem doTableRead_eq (p : Port) (s : State) : doTableRead p s = accept
    (s.modPort p fun q => { q with pointer := if q.hold = none then q.pointer + 1 else q.pointer })
    (byteOf (s.port p).pointer.val :: entryBytes s (s.port p).pointer) := by
  refine congrArg (accept · _) ?_
  cases hh : (s.port p).hold with
  | none =>
    refine (if_neg nofun).trans (modPort_congr ?_)
    simp only [hh, if_true]
    rfl
  | some i =>
    refine (if_pos rfl).trans ((modPort_self s p).symm.trans (modPort_congr ?_))
    simp only [hh, id, reduceCtorEq, if_false]
    rw [← hh]

/-! ### Settled -/

/-- Settles O26: the index is in range or not. -/
theorem tablePointerMoves : Obligations.TablePointerMoves := by
  intro p tag line index s hf
  have hexec : exec (.tablePointer p tag line index) s = .next (answered p tag 0x50 (doTablePointer p index s)) :=
    congrArg Host.Outcome.next (issue_of_free hf _ _)
  refine ⟨fun h => ?_, fun habove => ?_⟩
  · rw [hexec, doTablePointer, dif_pos h, answered_accept]
  · rw [hexec, doTablePointer, dif_neg (by omega), answered_refuse]

/-- Settles O27: a write is to a step, to a step with no action of that number, or to a pair. -/
theorem tableWriteStoresClamped : Obligations.TableWriteStoresClamped := by
  intro p tag line e0 e1 e2 e3 e4 e5 s hf
  have hexec : exec (.tableWrite p tag line e0 e1 e2 e3 e4 e5) s
      = .next (answered p tag 0x51 (doTableWrite p e0 e1 e2 e3 e4 e5 s)) :=
    congrArg Host.Outcome.next (issue_of_free hf _ _)
  refine ⟨fun h a ha => ?_, fun h h0 => ?_, fun h' h => ?_⟩
  · subst ha
    refine ⟨clampedStep a e1 e2 e3 e4 e5, rfl, rfl, congrArg (fun n => max 1 (min n _)) (durationTop_eq a), rfl, rfl, ?_⟩
    rw [hexec, doTableWrite_stored (writeEntry_step h a e1 e2 e3 e4 e5) (by cases p <;> rfl), answered_accept,
      entryBytes_step h]
    simp only [Vector.getElem_set_self, stepBytes, natBytes, wordBytes, clampedStep, byteOf_self]
    rfl
  · rw [hexec, doTableWrite_refused (writeEntry_badAction h h0 e1 e2 e3 e4 e5), answered_refuse]
  · refine ⟨pairOfBytes e0 e1 e2 e3 e4, congrArg (min 3400) (wordOf_toNat e0 e1), congrArg (min 3400) (wordOf_toNat e2 e3),
      rfl, ?_⟩
    rw [hexec, doTableWrite_stored (writeEntry_pair h h' e0 e1 e2 e3 e4 e5) (by cases p <;> rfl), answered_accept,
      entryBytes_pair h h']
    simp only [Vector.getElem_set_self, pairBytes, natBytes, wordBytes]
    rfl

/-- Settles O28: a read's data is the entry's bytes; hold on or off decides what TABLE_HOLD and TABLE_END answer. -/
theorem tableReadAndHold : Obligations.TableReadAndHold := by
  intro p tag line s hf
  have hhold : exec (.tableHold p tag line) s = .next (answered p tag 0x53 (doTableHold p s)) :=
    congrArg Host.Outcome.next (issue_of_free hf _ _)
  have hend : exec (.tableEnd p tag line) s = .next (answered p tag 0x54 (doTableEnd p s)) :=
    congrArg Host.Outcome.next (issue_of_free hf _ _)
  refine ⟨fun data hdata => ?_, fun hoff => ⟨?_, ?_⟩, fun i hon => ⟨?_, ?_⟩⟩
  · have hread : exec (.tableRead p tag line) s = .next (answered p tag 0x52 (doTableRead p s)) :=
      congrArg Host.Outcome.next (issue_of_free hf _ _)
    have hbytes : data = byteOf (s.port p).pointer.val :: entryBytes s (s.port p).pointer := by
      obtain ⟨hstep, hpair⟩ := hdata
      by_cases h : (s.port p).pointer.val < 64
      · rw [hstep h _ rfl, entryBytes_step h]
        rfl
      · have h' : (s.port p).pointer.val - 64 < 16 := by omega
        rw [hpair h' (Nat.not_lt.mp h) _ rfl, entryBytes_pair (Nat.not_lt.mp h) h']
        rfl
    rw [hread, doTableRead_eq, answered_accept, hbytes]
  · rw [hhold, doTableHold, hoff, if_neg nofun, answered_accept, pointerByte]
  · rw [hend, doTableEnd, hoff, answered_refuse]
  · rw [hhold, doTableHold, hon, Option.isSome_some, if_pos rfl, answered_refuse]
  · rw [hend, doTableEnd, hon, answered_accept, pointerByte]

end Sys2Proof.Machine
end

section
/-! SUPPORT. Settled: a counted JUMP loops its count of times (R143). -/

namespace Sys2Proof.Machine

/-! ### The loop register (R143) -/

/-- A counted JUMP that holds no loop begins one. -/
theorem jump_begins {i : Fin 64} {e : CadenceStep} {r : Option LoopRegister} (hc : 1 ≤ e.count)
    (hr : ∀ g, r = some g → g.owner ≠ i) :
    jump i e r = (some e.target, some { owner := i, remaining := e.count - 1 }) := by
  have hc' : e.count ≠ 0 := by omega
  cases r with
  | none => simp only [jump, hc', if_false]
  | some g => simp only [jump, hc', if_false, hr g rfl]

/-- A JUMP goes on with the loop it holds. -/
theorem jump_continues {i : Fin 64} {e : CadenceStep} (hc : 1 ≤ e.count) (n : Nat) :
    jump i e (some { owner := i, remaining := n + 1 }) = (some e.target, some { owner := i, remaining := n }) := by
  have hc' : e.count ≠ 0 := by omega
  simp [jump, hc']

/-- A JUMP whose loop has run out leads on, and its register is idle again. -/
theorem jump_exhausted {i : Fin 64} {e : CadenceStep} (hc : 1 ≤ e.count) :
    jump i e (some { owner := i, remaining := 0 }) = (nextStep i, none) := by
  have hc' : e.count ≠ 0 := by omega
  simp [jump, hc']

/-- After `n + 1` of its visits a JUMP with count N has N - (n + 1) jumps left. -/
theorem jump_iterate {i : Fin 64} {e : CadenceStep} {r : Option LoopRegister} (hr : ∀ g, r = some g → g.owner ≠ i) (n : Nat)
    (hn : n < e.count) :
    (fun q => (jump i e q).2)^[n + 1] r = some { owner := i, remaining := e.count - (n + 1) } := by
  induction n with
  | zero => rw [Function.iterate_one, jump_begins hn hr]
  | succ n ih =>
    have hleft : e.count - (n + 1) = e.count - (n + 1 + 1) + 1 := by omega
    rw [Function.iterate_succ_apply', ih (by omega), hleft, jump_continues (by omega)]

/-- Settles O42: the first visit begins the loop, each later one goes on with it, and the visit after N finds it run out. -/
theorem countedJumpLoops : Obligations.CountedJumpLoops := by
  intro i e r hc hr
  refine ⟨fun n hn => ?_, ?_⟩
  · cases n with
    | zero => rw [Function.iterate_zero, id, jump_begins hc hr]
    | succ n =>
      have hleft : e.count - (n + 1) = e.count - (n + 1 + 1) + 1 := by omega
      rw [jump_iterate hr n (by omega), hleft, jump_continues hc]
  · obtain ⟨n, hn⟩ : ∃ n, e.count = n + 1 := ⟨e.count - 1, by omega⟩
    have hspent := jump_iterate (e := e) hr n (by omega)
    rw [← hn, Nat.sub_self] at hspent
    rw [hspent, jump_exhausted hc]

end Sys2Proof.Machine
end

section
/-! SUPPORT. Settled: RING_STOP ends the ring cadence with its burst or request (R145, R151 to R159, R172); TONE_START and TONE_STOP
(R140, R145, R147). -/

namespace Sys2Proof.Machine

open Sys2Proof.Claim

/-! ### The stop of a ring cadence (R145, R156, R172) -/

theorem stopRing_eq {l : Line} {s : State} (hr : (s.line l).cad.kind = .ring) :
    stopRing l s = endCadence l (stopCallerId l (endRinging true l s)) := if_pos (decide_eq_true hr)

/-- The stop of a ring cadence is the stop of whatever cadence runs. -/
theorem cadenceStopped_eq_stopRing {l : Line} {s : State} (hr : (s.line l).cad.kind = .ring) :
    cadenceStopped l s = stopRing l s := (cadenceStopped_ring hr).trans (stopRing_eq hr).symm

theorem line_stopRing {l : Line} {s : State} (hr : (s.line l).cad.kind = .ring) : (stopRing l s).line l =
    { s.line l with
      cad := endedEngine (s.line l).cad, cid := dropTransmission (s.line l).cid, events := afterAbort (s.line l) } := by
  obtain ⟨t, ht⟩ := line_endRinging true l l s
  rw [stopRing_eq hr, line_endCadence_same, line_stopCallerId, ht]
  rfl

/-- Without a ring cadence no qualification completes before its own off_qualify (R102). -/
theorem settleQualification_unlasted {l : Line} {s : State} (hk : (s.line l).cad.kind ≠ .ring)
    (hq : ∀ q, (s.line l).sup.qualification = some q → ((s.line l).ms - q.start).toNat < q.offQualify) :
    settleQualification l s = s := by
  refine if_neg fun hdue => ?_
  have hr : ringCadence (s.line l) = false := decide_eq_false hk
  rw [qualificationDue, hr, Bool.and_eq_true, qualifiedFor] at hdue
  cases hc : (s.line l).sup.qualification with
  | none => simp [hc] at hdue
  | some q =>
    have hlong : q.offQualify ≤ elapsed (s.line l).ms q.start := by simpa [hc, ownQualify] using hdue.2
    exact absurd (hq q hc) (Nat.not_lt.mpr hlong)

/-- Settles O39: the stopped cadence's own line, the converter and the other line are those of `stopRing`, and no qualification
completes behind it. -/
theorem ringStopEnds : Obligations.RingStopEnds := by
  intro p tag l s hf ho
  have hexec : exec (.ringStop p tag (lineByte l)) s = .next (answered p tag 0x31 (ringStopOnLine l s)) :=
    congrArg Host.Outcome.next (issue_owned hf ho _ _)
  refine ⟨fun hk => ?_, fun hr hsound hq => ⟨stopRing l s, ?_, ?_⟩⟩
  · rw [hexec, ringStopOnLine, if_neg (by simpa [ringCadence] using hk), answered_accept]
  · have hsettled : settleQualification l (stopRing l s) = stopRing l s :=
      settleQualification_unlasted (by rw [line_stopRing hr]; nofun) (by rw [line_stopRing hr]; exact hq)
    rw [hexec, ringStopOnLine, if_pos (show ringCadence (s.line l) = true from decide_eq_true hr), answered_accept, hsettled]
  · obtain ⟨hring, hother⟩ := cadenceStopped_stopped hr hsound
    have hwork := partWork_cadenceStopped l s
    have hnoticed := noticed_cadenceStopped hr
    rw [cadenceStopped_eq_stopRing hr] at hring hother hwork hnoticed
    rw [line_stopRing hr]
    refine ⟨rfl, rfl, rfl, rfl, rfl, rfl, rfl, rfl, rfl, ⟨rfl, rfl, rfl, rfl⟩, ⟨rfl, rfl, rfl, rfl, rfl, rfl, rfl⟩, hwork.rest,
      hring, hother, hwork.ports, hnoticed, fun hx => ?_⟩
    have hsilent := (becomes_stopRing hr hx hsound).work
    exact ⟨hsilent.portA, hsilent.portB⟩

/-! ### Tone cadences (R140, R145, R147) -/

theorem stepEffect_tone {x : LineState} {i : Fin 64} {e : CadenceStep} (he : e.action = .tone) (hk : x.cad.kind = .tone) :
    stepEffect x i e = .tone := by
  simp only [stepEffect, he, hk]

/-- A TONE step of a tone cadence begins with its pair. -/
theorem beginStep_tone {l : Line} {b : Option TonePair} {n : Nat} {i : Fin 64} {s : State}
    (h : stepEffect (s.line l) i s.steps[i] = .tone) : beginStep l b (n + 1) i s = beginTone l i s.steps[i] b s := by
  rw [beginStep]
  simp only [h]

/-- The engine of a tone cadence that has started at the TONE step `e` with the pair `q` (R140, R147). -/
def toneBegun (i : Fin 64) (e : CadenceStep) (q : TonePair) (now : Word) : CadenceEngine :=
  { kind := .tone, index := i, current := i, inHand := some { step := e, pair := some q },
    timer := some { start := now, length := 10 * e.duration }, loop := none, zeroRun := 0, phase1 := 0, phase2 := 0 }

/-- A tone cadence that starts at a TONE step sounds its pair from phase zero on. -/
theorem startCadence_sounds {l : Line} {i : Fin 64} {s : State} {e : CadenceStep} (hi : s.steps[i] = e)
    (he : e.action = .tone) :
    startCadence .tone l i s = s.modCad l fun _ => toneBegun i e s.pairs[e.tone] (s.line l).ms := by
  subst hi
  have hstart : startCadence .tone l i s = beginStep l none stepFuel i (s.modCad l fun c => { c with
      kind := .tone, index := i, current := i, inHand := none, timer := none, loop := none, zeroRun := 0 }) := rfl
  rw [hstart, stepFuel, beginStep_tone (stepEffect_tone (by rw [modCad_steps]; exact he) (by rw [line_modCad_same]))]
  cases l <;> rfl

theorem stopTone_none {l : Line} {s : State} (h : (s.line l).cad.kind ≠ .tone) : stopTone l s = s := by
  rw [stopTone_eq, if_neg h]

theorem toneAllowed_iff (v : Supervision) : toneAllowed v = true ↔ v = .offHook ∨ v = .inBreak := by
  simp [toneAllowed]

/-- Settles O40: the two refusals, the start at a TONE step, and the stop with and without a tone cadence. -/
theorem toneStartsAndStops : Obligations.ToneStartsAndStops := by
  intro p tag step l s hf ho
  have hstart : exec (.toneStart p tag (lineByte l) step) s = .next (answered p tag 0x32 (toneStartOnLine step l s)) :=
    congrArg Host.Outcome.next (issue_owned hf ho _ _)
  have hstop : exec (.toneStop p tag (lineByte l)) s = .next (answered p tag 0x33 (toneStopOnLine l s)) :=
    congrArg Host.Outcome.next (issue_owned hf ho _ _)
  refine ⟨fun hs => ?_, fun hs habove => ?_, fun i e hi he hact hs hk => ?_, fun hk => ?_, fun hk => ?_⟩
  · have hnot : ¬ toneAllowed (s.line l).sup.state = true := by
      rw [toneAllowed_iff]
      obtain hs | hs := hs <;> rw [hs] <;> nofun
    rw [hstart, toneStartOnLine, if_neg hnot, answered_refuse]
  · rw [hstart, toneStartOnLine, if_pos ((toneAllowed_iff _).mpr hs), stepIndex_above habove, answered_refuse]
  · simp only [hstart, toneStartOnLine, if_pos ((toneAllowed_iff _).mpr hs), stepIndex_eq hi, answered_accept, startTone,
      stopTone_none (l := l) (s := s) (by rw [hk]; nofun), startCadence_sounds he hact]
    rfl
  · rw [hstop, toneStopOnLine, stopTone_eq, if_pos hk, answered_accept]
    rfl
  · rw [hstop, toneStopOnLine, stopTone_none hk, answered_accept]

end Sys2Proof.Machine
end

section
/-! SUPPORT. The steps of a cadence, said once for each effect: how a step begins, and what the step after the ended one makes of
the line (R141 to R144, R147, R169). -/

namespace Sys2Proof.Machine

open Sys2Proof.Claim

/-! ### What each action does in each kind of cadence (R141, R143, R169) -/

theorem stepEffect_ring_notRing {x : LineState} {e : CadenceStep} (i : Fin 64) (he : e.action = .ring)
    (hk : x.cad.kind ≠ .ring) : stepEffect x i e = .timed := by
  cases hc : x.cad.kind <;> simp_all [stepEffect]

theorem stepEffect_tone_notTone {x : LineState} {e : CadenceStep} (i : Fin 64) (he : e.action = .tone)
    (hk : x.cad.kind ≠ .tone) : stepEffect x i e = .timed := by
  cases hc : x.cad.kind <;> simp_all [stepEffect]

/-- A CID step sends only in a ring cadence with a record. -/
theorem stepEffect_cid_passed {x : LineState} {e : CadenceStep} (i : Fin 64) (he : e.action = .cid)
    (h : x.cad.kind = .ring → x.cid.loaded = none) : stepEffect x i e = .leadsTo (nextStep i) x.cad.loop := by
  cases hc : x.cad.kind <;> simp_all [stepEffect]

theorem stepEffect_cid {x : LineState} {e : CadenceStep} (i : Fin 64) (he : e.action = .cid) (hk : x.cad.kind = .ring)
    (hx : x.cid.loaded ≠ none) : stepEffect x i e = .cid := by
  have hx' : x.cid.loaded.isSome = true := Option.isSome_iff_ne_none.mpr hx
  simp only [stepEffect, he, hk, hx', if_true]

theorem stepEffect_jump (x : LineState) (i : Fin 64) {e : CadenceStep} (he : e.action = .jump) :
    stepEffect x i e = .leadsTo (jump i e x.cad.loop).1 (jump i e x.cad.loop).2 := by
  simp only [stepEffect, he]

theorem stepEffect_stop (x : LineState) (i : Fin 64) {e : CadenceStep} (he : e.action = .stop) :
    stepEffect x i e = .stop := by
  simp only [stepEffect, he]

/-- A JUMP with count 0 always goes to its target (R143). -/
theorem jump_uncounted {i : Fin 64} {e : CadenceStep} (r : Option LoopRegister) (h : e.count = 0) :
    jump i e r = (some e.target, r) := if_pos h

/-! ### The start of a step (R141) -/

/-- The engine at a step that leads on without any passage of time. -/
def passedStep (i : Fin 64) (e : CadenceStep) (register : Option LoopRegister) (c : CadenceEngine) : CadenceEngine :=
  { c with current := i, inHand := some { step := e, pair := none }, timer := none, loop := register, zeroRun := c.zeroRun + 1 }

section start

variable {l : Line} {b : Option TonePair} {n : Nat} {i : Fin 64} {s : State} {e : CadenceStep} (he : s.steps[i] = e)

include he

theorem beginStep_ring (h : stepEffect (s.line l) i e = .ring) : beginStep l b (n + 1) i s = beginRing l i e s := by
  subst he
  rw [beginStep]
  simp only [h]

theorem beginStep_cid (h : stepEffect (s.line l) i e = .cid) : beginStep l b (n + 1) i s = beginCid l i e s := by
  subst he
  rw [beginStep]
  simp only [h]

theorem beginStep_stop (h : stepEffect (s.line l) i e = .stop) : beginStep l b (n + 1) i s = endCadence l s := by
  subst he
  rw [beginStep]
  simp only [h]

/-- Within the zero-time run a step leads on to the next. -/
theorem beginStep_leads {j : Fin 64} {r : Option LoopRegister} (h : stepEffect (s.line l) i e = .leadsTo (some j) r)
    (hz : (s.line l).cad.zeroRun + 1 < 64) :
    beginStep l b (n + 1) i s = beginStep l b n j (s.modCad l (passedStep i e r)) := by
  subst he
  rw [beginStep]
  simp only [h, Config.zeroRunLimit]
  exact if_neg (Nat.not_le.mpr hz)

/-- At a zero-time run of 64 the cadence ends (R144). -/
theorem beginStep_limit {j : Option (Fin 64)} {r : Option LoopRegister} (h : stepEffect (s.line l) i e = .leadsTo j r)
    (hz : 64 ≤ (s.line l).cad.zeroRun + 1) :
    beginStep l b (n + 1) i s = endCadence l (s.modCad l (passedStep i e r)) := by
  subst he
  rw [beginStep]
  simp only [h, Config.zeroRunLimit]
  exact if_pos hz

end start

/-- The end of a cadence that is no ring cadence is no more than that. -/
theorem endCadence_notRing {l : Line} {s : State} (h : (s.line l).cad.kind ≠ .ring) :
    endCadence l s = s.modCad l noCadence := if_neg (by simpa [ringCadence] using h)

theorem modCad_comp (s : State) (l : Line) (f g : CadenceEngine → CadenceEngine) :
    (s.modCad l f).modCad l g = s.modCad l fun c => g (f c) := modLine_comp s l _ _

theorem steps_modCad {l : Line} {s : State} {i : Fin 64} {e : CadenceStep} (f : CadenceEngine → CadenceEngine)
    (he : s.steps[i] = e) : (s.modCad l f).steps[i] = e := by
  rw [modCad_steps]
  exact he

/-- A JUMP with count 0 to itself runs through the zero-time run, and the cadence ends (R144). -/
theorem beginStep_stuck {l : Line} {b : Option TonePair} {i : Fin 64} {e : CadenceStep} (he : e.action = .jump)
    (hc : e.count = 0) (ht : e.target = i) (n : Nat) : ∀ s : State, s.steps[i] = e → (s.line l).cad.kind ≠ .ring →
      (s.line l).cad.zeroRun < 64 → 64 ≤ (s.line l).cad.zeroRun + n → beginStep l b n i s = s.modCad l noCadence := by
  induction n with
  | zero => exact fun s _ _ hlow hhigh => absurd hlow (by omega)
  | succ n ih =>
    intro s hi hk hlow hhigh
    have heffect : stepEffect (s.line l) i e = .leadsTo (some i) (s.line l).cad.loop := by
      rw [stepEffect_jump _ i he, jump_uncounted _ hc, ht]
    have hpassed : ((s.modCad l (passedStep i e (s.line l).cad.loop)).line l).cad
        = passedStep i e (s.line l).cad.loop (s.line l).cad := by rw [line_modCad_same]
    have hkind : ((s.modCad l (passedStep i e (s.line l).cad.loop)).line l).cad.kind ≠ .ring := by rw [hpassed]; exact hk
    have hended : (s.modCad l (passedStep i e (s.line l).cad.loop)).modCad l noCadence = s.modCad l noCadence :=
      modCad_comp ..
    by_cases hz : 64 ≤ (s.line l).cad.zeroRun + 1
    · rw [beginStep_limit hi heffect hz, endCadence_notRing hkind, hended]
    · rw [beginStep_leads hi heffect (Nat.not_le.mp hz), ih _ (steps_modCad _ hi) hkind, hended]
      · rw [hpassed]
        exact Nat.not_le.mp hz
      · rw [hpassed]
        simp only [passedStep]
        omega

/-! ### The next step (R141, R144) -/

/-- The engine with its step timer stopped. -/
def timerless (c : CadenceEngine) : CadenceEngine := { c with timer := none }

/-- The line at a step whose timer runs. -/
def timedLine (i : Fin 64) (e : CadenceStep) (x : LineState) : LineState := { x with cad := timedStep i e x.ms x.cad }

/-- The line at a step with its timer stopped. -/
def untimedLine (i : Fin 64) (e : CadenceStep) (x : LineState) : LineState :=
  { x with cad := { timedStep i e x.ms x.cad with timer := none } }

theorem modLine_timedLine (l : Line) (i : Fin 64) (e : CadenceStep) (s : State) :
    s.modLine l (timedLine i e) = s.modCad l (timedStep i e (s.line l).ms) := modLine_congr rfl

theorem modLine_untimedLine (l : Line) (i : Fin 64) (e : CadenceStep) (s : State) : s.modLine l (untimedLine i e)
    = s.modCad l fun c => { timedStep i e (s.line l).ms c with timer := none } := modLine_congr rfl

theorem beginTimed_modCad (l : Line) (i : Fin 64) (e : CadenceStep) (s : State) (f : CadenceEngine → CadenceEngine) :
    beginTimed l i e (s.modCad l f) = s.modLine l fun x => { x with cad := timedStep i e x.ms (f x.cad) } :=
  modLine_comp ..

theorem stepEffect_timerless {l : Line} {s : State} {i : Fin 64} {e : CadenceStep} :
    stepEffect ((s.modCad l timerless).line l) i e = stepEffect (s.line l) i e := by
  rw [line_modCad_same]
  rfl

section next

variable {l : Line} {s : State} {i : Fin 64} {e : CadenceStep} (hi : i.val = (s.line l).cad.current.val + 1)
  (he : s.steps[i] = e)

include hi

theorem advanceCadence_begins :
    advanceCadence l s = beginStep l (pairInHand (s.line l).cad) stepFuel i (s.modCad l timerless) := by
  simp only [advanceCadence, nextStep_eq hi]
  rfl

include he

theorem advanceCadence_timed (h : stepEffect (s.line l) i e = .timed) :
    advanceCadence l s = s.modLine l (timedLine i e) := by
  have hsteps : (s.modCad l timerless).steps[i] = e := steps_modCad _ he
  rw [advanceCadence_begins hi, stepFuel, beginStep_timed (by rw [hsteps, stepEffect_timerless, h]), hsteps,
    beginTimed_modCad]
  rfl

theorem advanceCadence_tone (h : stepEffect (s.line l) i e = .tone) : advanceCadence l s = s.modLine l fun x => { x with
    cad := { timedStep i e x.ms x.cad with
      inHand := some { step := e, pair := some s.pairs[e.tone] }
      phase1 := carriedPhase (pairInHand (s.line l).cad) x.cad s.pairs[e.tone].f1
      phase2 := carriedPhase (pairInHand (s.line l).cad) x.cad s.pairs[e.tone].f2 } } := by
  have hsteps : (s.modCad l timerless).steps[i] = e := steps_modCad _ he
  rw [advanceCadence_begins hi, stepFuel, beginStep_tone (by rw [hsteps, stepEffect_timerless, h]), hsteps, beginTone]
  refine (modLine_comp ..).trans ?_
  simp only [modCad_pairs]
  rfl

theorem advanceCadence_ring (h : stepEffect (s.line l) i e = .ring) :
    advanceCadence l s = ringRequest l (s.modLine l (untimedLine i e)) := by
  rw [advanceCadence_begins hi, stepFuel, beginStep_ring (steps_modCad _ he) (stepEffect_timerless.trans h)]
  exact congrArg (ringRequest l) (modLine_comp ..)

theorem advanceCadence_cid (h : stepEffect (s.line l) i e = .cid) : advanceCadence l s
    = s.modLine l fun x => { untimedLine i e x with cid := startTransmission x.cid } := by
  rw [advanceCadence_begins hi, stepFuel, beginStep_cid (steps_modCad _ he) (stepEffect_timerless.trans h)]
  exact (congrArg (State.modCid · l startTransmission) (modLine_comp ..)).trans (modLine_comp ..)

theorem advanceCadence_stop (h : stepEffect (s.line l) i e = .stop) :
    advanceCadence l s = endCadence l (s.modCad l timerless) := by
  rw [advanceCadence_begins hi, stepFuel, beginStep_stop (steps_modCad _ he) (stepEffect_timerless.trans h)]

/-- A step that leads on to a QUIET step, the loop register as it leaves it. -/
theorem advanceCadence_leads {j : Fin 64} {g : CadenceStep} {r : Option LoopRegister}
    (h : stepEffect (s.line l) i e = .leadsTo (some j) r) (hz : (s.line l).cad.zeroRun = 0) (hj : s.steps[j] = g)
    (hg : g.action = .quiet) : advanceCadence l s
      = s.modCad l fun c => { timedStep j g (s.line l).ms c with loop := r } := by
  have hsteps : ((s.modCad l timerless).modCad l (passedStep i e r)).steps[j] = g :=
    steps_modCad _ (steps_modCad _ hj)
  have hrun : ((s.modCad l timerless).line l).cad.zeroRun + 1 < 64 := by
    rw [line_modCad_same]
    simp only [timerless, hz]
    decide
  rw [advanceCadence_begins hi, stepFuel,
    beginStep_leads (steps_modCad _ he) (stepEffect_timerless.trans h) hrun, Config.zeroRunLimit,
    beginStep_timed (by rw [hsteps]; exact stepEffect_quiet _ j hg), hsteps, modCad_comp, beginTimed_modCad]
  exact modLine_congr rfl

/-- A step that leads on, with the loop register as it was, to a QUIET step. -/
theorem advanceCadence_passes {j : Fin 64} {g : CadenceStep}
    (h : stepEffect (s.line l) i e = .leadsTo (some j) (s.line l).cad.loop) (hz : (s.line l).cad.zeroRun = 0)
    (hj : s.steps[j] = g) (hg : g.action = .quiet) : advanceCadence l s = s.modCad l (timedStep j g (s.line l).ms) :=
  (advanceCadence_leads hi he h hz hj hg).trans (modLine_congr rfl)

/-- A JUMP with count 0 to itself ends a tone cadence. -/
theorem advanceCadence_stuck (ha : e.action = .jump) (hc : e.count = 0) (ht : e.target = i)
    (hk : (s.line l).cad.kind ≠ .ring) (hz : (s.line l).cad.zeroRun = 0) : advanceCadence l s = s.modCad l noCadence := by
  have hcad : ((s.modCad l timerless).line l).cad = timerless (s.line l).cad := by rw [line_modCad_same]
  have hrun : (timerless (s.line l).cad).zeroRun = 0 := hz
  rw [advanceCadence_begins hi, beginStep_stuck ha hc ht stepFuel _ (steps_modCad _ he) (by rw [hcad]; exact hk)
    (by rw [hcad, hrun]; decide) (by rw [hcad, hrun]; decide), modCad_comp]
  rfl

end next

end Sys2Proof.Machine
end

section
/-! SUPPORT. Settled: at its step timer's expiry a cadence begins its next step, a burst ending first (R142, R147, R152, R154). -/

namespace Sys2Proof.Machine

open Sys2Proof.Claim

/-! ### The phases of a TONE step (R147) -/

theorem carriedPhase_of_tonePhases {before : Option TonePair} {q : TonePair} {c : CadenceEngine} {a b : Nat}
    (h : TonePhases before q c a b) : carriedPhase before c q.f1 = a ∧ carriedPhase before c q.f2 = b := by
  obtain ⟨rfl, rfl, rfl⟩ | ⟨rfl, hne, rfl, rfl⟩ | ⟨p, rfl, h11, h12, h21, h22, rfl, rfl⟩ := h
  · exact ⟨rfl, rfl⟩
  · exact ⟨if_pos rfl, (if_neg hne).trans (if_pos rfl)⟩
  · exact ⟨(if_neg h11).trans (if_neg h21), (if_neg h12).trans (if_neg h22)⟩

/-! ### The burst that ends first (R152, R154) -/

/-- With nobody waiting the burst leaves the converter READY. -/
theorem becomes_burstEnded {l : Line} {s : State} (hd : s.ring.converter = .driving l) (hw : s.ring.waitList = []) :
    Becomes l s (endRinging true l s) (s.line l) (s.line (otherLine l)) { s.ring with converter := .ready } := by
  rw [endRinging_driving_nobody hd hw]
  exact ⟨line_modRing .., line_modRing .., rfl, ringWork_modRing ..⟩

/-- With the other line waiting it is granted. -/
theorem becomes_burstHanded {l : Line} {s : State} (hd : s.ring.converter = .driving l)
    (hw : s.ring.waitList = [otherLine l]) : Becomes l s (endRinging true l s) (s.line l)
      (granted (s.line (otherLine l)))
      { s.ring with converter := .driving (otherLine l), waitList := [], keepWarm := none } := by
  rw [endRinging_driving_grants hd hw]
  refine ⟨?_, by rw [line_modLine_same, line_modRing], modLine_ring .., (ringWork_modRing ..).trans (ringWork_modLine ..)⟩
  rw [line_modLine_other _ _ _ _ (otherLine_ne l).symm, line_modRing]

theorem modRing_congr {s : State} {f g : RingArbiter → RingArbiter} (h : f s.ring = g s.ring) :
    s.modRing f = s.modRing g := by
  simp only [State.modRing, h]

section afterBurst

variable {l : Line} {s u : State} {y : LineState} {a : RingArbiter} {i : Fin 64} {e : CadenceStep}
  (h : Becomes l s u (s.line l) y a) (hi : i.val = (s.line l).cad.current.val + 1) (he : s.steps[i] = e)

include h hi he

theorem Becomes.advances_quiet (hq : e.action = .quiet) :
    Becomes l s (advanceCadence l u) (timedLine i e (s.line l)) y a := by
  rw [advanceCadence_timed (by rw [h.line]; exact hi) (by rw [h.work.rest.1]; exact he) (stepEffect_quiet _ i hq)]
  exact h.modLine _

/-- A RING step asks for the next burst. -/
theorem Becomes.advances_ring (hq : e.action = .ring) (hk : (s.line l).cad.kind = .ring) :
    ∃ t, Becomes l s t (untimedLine i e (s.line l)) y a ∧ advanceCadence l u = ringRequest l t :=
  ⟨_, h.modLine _, advanceCadence_ring (by rw [h.line]; exact hi) (by rw [h.work.rest.1]; exact he)
    (by rw [h.line]; exact stepEffect_ring hq hk)⟩

/-- STOP ends the ring cadence, which is judged if it was the last. -/
theorem Becomes.advances_stop (hq : e.action = .stop) (hk : (s.line l).cad.kind = .ring) : Becomes l s (advanceCadence l u)
      { s.line l with cad := noCadence (s.line l).cad } y
      (judgedAtEnd (decide (y.cad.kind = .ring)) (fullFeed (s.line l).sup.feed || fullFeed y.sup.feed) a) := by
  have hstop : Becomes l s (u.modCad l timerless) { s.line l with cad := timerless (s.line l).cad } y a := h.modLine _
  rw [advanceCadence_stop (by rw [h.line]; exact hi) (by rw [h.work.rest.1]; exact he) (stepEffect_stop _ i hq)]
  refine ⟨?_, ?_, ?_, hstop.work.trans (ringWork_endCadence l _)⟩
  · rw [line_endCadence_same, hstop.line]
    rfl
  · exact (line_endCadence_other ..).trans hstop.other
  · rw [endCadence_ring (by rw [hstop.line]; exact hk), hstop.line, hstop.other, hstop.ring]

end afterBurst

/-! ### STEP_TIMER_EXPIRY (R142) -/

theorem stepDue_iff {x : LineState} {t : Timer} (ht : x.cad.timer = some t) :
    stepDue x = true ↔ x.cad.kind ≠ .none ∧ t.length ≤ (x.ms - t.start).toNat := by
  rw [stepDue, ht, Bool.and_eq_true, decide_eq_true_iff, timer_expired_iff]

section expiry

variable {l : Line} {s : State} {t : Timer} (ht : (s.line l).cad.timer = some t) (hk : (s.line l).cad.kind ≠ .none)
  (hlong : t.length ≤ ((s.line l).ms - t.start).toNat)

include ht hk hlong

theorem exec_stepTimerExpiry_undriven (hd : s.ring.converter ≠ .driving l) :
    exec (.stepTimerExpiry l) s = .next (advanceCadence l s) :=
  congrArg Host.Outcome.next ((if_pos ((stepDue_iff ht).mpr ⟨hk, hlong⟩)).trans (by rw [if_neg hd]))

/-- A granted burst ends first (R154). -/
theorem exec_stepTimerExpiry_driven (hd : s.ring.converter = .driving l) :
    exec (.stepTimerExpiry l) s = .next (advanceCadence l (endRinging true l s)) :=
  congrArg Host.Outcome.next ((if_pos ((stepDue_iff ht).mpr ⟨hk, hlong⟩)).trans (by rw [if_pos hd]))

end expiry

/-- Settles O41: in each kind of cadence the step's action decides its effect; a burst has ended before it. -/
theorem stepTimerAdvances : Obligations.StepTimerAdvances := by
  intro l s t i e ht hi he
  refine ⟨fun hshort => ?early, fun hlong => ⟨fun hk hd => ?tone, fun hk hd => ?pause, fun hk hd => ?burst⟩⟩
  case early =>
    exact congrArg Host.Outcome.next (if_neg fun hdue => absurd ((stepDue_iff ht).mp hdue).2 (Nat.not_le.mpr hshort))
  case tone =>
    have hring : (s.line l).cad.kind ≠ .ring := by rw [hk]; nofun
    have hnext {u : State} (h : advanceCadence l s = u) : exec (.stepTimerExpiry l) s = .next u :=
      (exec_stepTimerExpiry_undriven ht (by rw [hk]; nofun) hlong hd).trans (congrArg _ h)
    refine ⟨fun ha => hnext ?_, fun ha => hnext ?_, fun ha h a b hh hphases => hnext ?_, fun hz =>
      ⟨fun ha j g hj hg hq => hnext ?_, fun ha g hg hq => ⟨fun hc => hnext ?_, fun hc hloop => hnext ?_⟩,
        fun ha hc htarget => hnext ?_⟩⟩
    · have heffect : stepEffect (s.line l) i e = .timed :=
        ha.elim (stepEffect_quiet _ i) fun ha => stepEffect_ring_notRing i ha hring
      rw [advanceCadence_timed hi he heffect, modLine_timedLine]
    · rw [advanceCadence_stop hi he (stepEffect_stop _ i ha), endCadence_notRing (by rw [line_modCad_same]; exact hring),
        modCad_comp]
      rfl
    · have hpair : pairInHand (s.line l).cad = h.pair := by rw [pairInHand, hh]; rfl
      obtain ⟨rfl, rfl⟩ := carriedPhase_of_tonePhases hphases
      rw [advanceCadence_tone hi he (stepEffect_tone ha hk), hpair]
      exact modLine_congr rfl
    · have heffect : stepEffect (s.line l) i e = .leadsTo (some j) (s.line l).cad.loop := by
        rw [stepEffect_cid_passed i ha fun h => absurd h hring, nextStep_eq hj]
      exact advanceCadence_passes hi he heffect hz hg hq
    · have heffect : stepEffect (s.line l) i e = .leadsTo (some e.target) (s.line l).cad.loop := by
        rw [stepEffect_jump _ i ha, jump_uncounted _ hc]
      exact advanceCadence_passes hi he heffect hz hg hq
    · have heffect : stepEffect (s.line l) i e
          = .leadsTo (some e.target) (some { owner := i, remaining := e.count - 1 }) := by
        rw [stepEffect_jump _ i ha, hloop, jump_begins (r := none) hc nofun]
      exact advanceCadence_leads hi he heffect hz hg hq
    · exact advanceCadence_stuck hi he ha hc htarget hring hz
  case pause =>
    have hnext {u : State} (h : advanceCadence l s = u) : exec (.stepTimerExpiry l) s = .next u :=
      (exec_stepTimerExpiry_undriven ht (by rw [hk]; nofun) hlong hd).trans (congrArg _ h)
    refine ⟨fun ha => hnext ?_, fun ha hx => hnext ?_, fun ha hx hz j g hj hg hq => hnext ?_⟩
    · have heffect : stepEffect (s.line l) i e = .timed :=
        ha.elim (stepEffect_quiet _ i) fun ha => stepEffect_tone_notTone i ha (by rw [hk]; nofun)
      rw [advanceCadence_timed hi he heffect, modLine_timedLine]
    · rw [advanceCadence_cid hi he (stepEffect_cid i ha hk hx)]
      rfl
    · have heffect : stepEffect (s.line l) i e = .leadsTo (some j) (s.line l).cad.loop := by
        rw [stepEffect_cid_passed i ha fun _ => hx, nextStep_eq hj]
      exact advanceCadence_passes hi he heffect hz hg hq
  case burst =>
    have hnext {u : State} (h : advanceCadence l (endRinging true l s) = u) : exec (.stepTimerExpiry l) s = .next u :=
      (exec_stepTimerExpiry_driven ht (by rw [hk]; nofun) hlong hd).trans (congrArg _ h)
    refine ⟨fun hw => ⟨fun ha => hnext ?_, fun ha => hnext ?_, fun ha ho => hnext ?_⟩,
      fun hw => ⟨fun ha => hnext ?_, fun ha => hnext ?_⟩⟩
    · have h := (becomes_burstEnded hd hw).advances_quiet hi he ha
      rw [h.eq_line (f := timedLine i e), modLine_timedLine]
      exact modRing_congr (by rw [modCad_ring])
    · obtain ⟨u, hu, hasks⟩ := (becomes_burstEnded hd hw).advances_ring hi he ha hk
      have h : Becomes l s _ (timedLine i e (s.line l)) _ _ := hu.granted rfl hw
      rw [hasks, h.eq_line (f := timedLine i e), modLine_timedLine]
      exact modRing_congr (by simp only [modCad_ring, hd, hw])
    · have h := (becomes_burstEnded hd hw).advances_stop hi he ha hk
      rw [judgedAtEnd, if_pos ⟨rfl, hw, decide_eq_false ho⟩] at h
      rw [h.eq_line (f := fun x => { x with cad := noCadence x.cad })]
      exact modRing_congr (by rw [modLine_ring])
    · have h := (becomes_burstHanded hd hw).advances_quiet hi he ha
      rw [h.eq_both (f := timedLine i e), modLine_timedLine]
      exact modRing_congr (by rw [modLine_ring, modCad_ring])
    · obtain ⟨u, hu, hasks⟩ := (becomes_burstHanded hd hw).advances_ring hi he ha hk
      have h := hu.waits (.inr rfl)
      rw [hasks, h.eq_both (f := untimedLine i e), modLine_untimedLine]
      exact modRing_congr (by rw [modLine_ring, modCad_ring]; rfl)

end Sys2Proof.Machine
end

section
/-! SUPPORT. Settled: the start timer makes the converter READY and serves the list, and the keep-warm timer makes it OFF (R150, R152,
R159). -/

namespace Sys2Proof.Machine

open Sys2Proof.Claim

/-! ### When the converter's timers are due (R150, R159) -/

theorem startDue_iff (a : RingArbiter) : startDue a = true ↔ ∃ n, a.startTimer = some n ∧ 50 ≤ n := by
  unfold startDue
  split
  next n hn =>
    rw [hn, decide_eq_true_iff]
    simp [Config.startMs]
  next hn => simp [hn]

theorem keepWarmDue_iff (a : RingArbiter) : keepWarmDue a = true ↔ ∃ n, a.keepWarm = some n ∧ 5000 ≤ n := by
  unfold keepWarmDue
  split
  next n hn =>
    rw [hn, decide_eq_true_iff]
    simp [Config.keepWarmMs]
  next hn => simp [hn]

/-! ### The wait list served, or the feeds judged (R152, R159) -/

theorem modRing_comp (s : State) (f g : RingArbiter → RingArbiter) :
    (s.modRing f).modRing g = s.modRing fun a => g (f a) := rfl

/-- A READY converter grants the head of the wait list. -/
theorem grantHead_ready {s : State} {k : Line} {ks : List Line} (hc : s.ring.converter = .ready)
    (hw : s.ring.waitList = k :: ks) : grantHead s
      = (s.modLine k granted).modRing fun a => { a with converter := .driving k, waitList := ks, keepWarm := none } := by
  rw [← modRing_modLine]
  unfold grantHead
  rw [hc, hw]
  rfl

theorem modLine_granted {s : State} {l : Line} {h : StepInHand} (hh : (s.line l).cad.inHand = some h) : s.modLine l granted
    = s.modCad l fun c => { c with timer := some { start := (s.line l).ms, length := 10 * h.step.duration } } :=
  modLine_congr (by rw [granted, hh]; rfl)

/-- A READY converter with nobody waiting and no ring cadence is judged by the feeds. -/
theorem judgeKeepWarm_ready {s : State} (hc : s.ring.converter = .ready) (hw : s.ring.waitList = [])
    (hk : ∀ l, (s.line l).cad.kind ≠ .ring) : judgeKeepWarm s = judgeFeeds s := by
  refine if_pos ?_
  rw [judgementDue, Bool.and_eq_true, decide_eq_true_iff, nobodyRings_eq .one]
  exact ⟨hc, hw, hk _, hk _⟩

/-! ### START_TIMER_EXPIRY and KEEP_WARM_EXPIRY -/

/-- The state in which the converter's start is over. -/
def startedUp (s : State) : State := s.modRing fun a => { a with converter := .ready, startTimer := none }

theorem exec_startTimerExpiry_waiting {s : State} (hdue : startDue s.ring = true) (hw : s.ring.waitList ≠ []) :
    exec .startTimerExpiry s = .next (grantHead (startedUp s)) :=
  congrArg Host.Outcome.next ((if_pos hdue).trans (if_neg hw))

theorem exec_startTimerExpiry_nobody {s : State} (hdue : startDue s.ring = true) (hw : s.ring.waitList = []) :
    exec .startTimerExpiry s = .next (judgeKeepWarm (startedUp s)) :=
  congrArg Host.Outcome.next ((if_pos hdue).trans (if_pos hw))

theorem exec_startTimerExpiry_early {s : State} (hdue : ¬ startDue s.ring = true) : exec .startTimerExpiry s = .next s :=
  congrArg Host.Outcome.next (if_neg hdue)

theorem exec_keepWarmExpiry_due {s : State} (hdue : keepWarmDue s.ring = true) :
    exec .keepWarmExpiry s = .next (s.modRing fun a => { a with converter := .off, keepWarm := none }) :=
  congrArg Host.Outcome.next (if_pos hdue)

theorem exec_keepWarmExpiry_early {s : State} (hdue : ¬ keepWarmDue s.ring = true) : exec .keepWarmExpiry s = .next s :=
  congrArg Host.Outcome.next (if_neg hdue)

/-- The head granted at the end of the start. -/
theorem grantHead_startedUp {s : State} {l : Line} {rest : List Line} {h : StepInHand} (hw : s.ring.waitList = l :: rest)
    (hh : (s.line l).cad.inHand = some h) : grantHead (startedUp s) = (s.modCad l fun c =>
        { c with timer := some { start := (s.line l).ms, length := 10 * h.step.duration } }).modRing fun _ =>
      { s.ring with converter := .driving l, startTimer := none, waitList := rest, keepWarm := none } := by
  rw [grantHead_ready (s := startedUp s) rfl hw, startedUp, modRing_modLine, modRing_comp, modLine_granted hh]
  exact modRing_congr (by simp only [modCad_ring])

/-- The feeds judged at the end of the start. -/
theorem judgeKeepWarm_startedUp {s : State} (hw : s.ring.waitList = []) (hk : ∀ l, (s.line l).cad.kind ≠ .ring) :
    judgeKeepWarm (startedUp s) = s.modRing fun a =>
      if fullFeed s.line1.sup.feed = true ∨ fullFeed s.line2.sup.feed = true
      then { a with converter := .ready, startTimer := none, keepWarm := some 0 }
      else { a with converter := .off, startTimer := none, keepWarm := none } := by
  have hwarm : warmFeed (startedUp s) = true ↔ fullFeed s.line1.sup.feed = true ∨ fullFeed s.line2.sup.feed = true := by
    rw [warmFeed, Bool.or_eq_true]
    rfl
  rw [judgeKeepWarm_ready (s := startedUp s) rfl hw fun l => by rw [startedUp, line_modRing]; exact hk l]
  obtain ⟨hfull, h⟩ | ⟨hfull, h⟩ := judgeFeeds_cases (startedUp s)
  · rw [h, startedUp, modRing_comp]
    exact modRing_congr (if_pos (hwarm.mp hfull)).symm
  · rw [h, startedUp, modRing_comp]
    exact modRing_congr (if_neg (mt hwarm.mpr (Bool.eq_false_iff.mp hfull))).symm

/-- Settles O43: each timer acts once it is due; at the end of the start the list decides between a grant and the judgement of the
feeds. -/
theorem converterTimers : Obligations.ConverterTimers := by
  intro s
  refine ⟨fun n hn hlong => ?started, fun n hn hlong => ?cooled, fun hshort => ?starting, fun hshort => ?warm⟩
  case started =>
    have hdue : startDue s.ring = true := (startDue_iff _).mpr ⟨n, hn, hlong⟩
    refine ⟨fun l rest h hw hh => ?_, fun hw hk => ?_⟩
    · rw [exec_startTimerExpiry_waiting hdue (by rw [hw]; nofun), grantHead_startedUp hw hh]
    · rw [exec_startTimerExpiry_nobody hdue hw, judgeKeepWarm_startedUp hw hk]
  case cooled => exact exec_keepWarmExpiry_due ((keepWarmDue_iff _).mpr ⟨n, hn, hlong⟩)
  case starting =>
    refine exec_startTimerExpiry_early fun hdue => ?_
    obtain ⟨n, hn, hlong⟩ := (startDue_iff _).mp hdue
    exact absurd (hshort n hn) (Nat.not_lt.mpr hlong)
  case warm =>
    refine exec_keepWarmExpiry_early fun hdue => ?_
    obtain ⟨n, hn, hlong⟩ := (keepWarmDue_iff _).mp hdue
    exact absurd (hshort n hn) (Nat.not_lt.mpr hlong)

end Sys2Proof.Machine
end

section
/-! SUPPORT. Settled: LOAD_CALLER_ID stores the record and forms its message, or is refused (R164 to R166). -/

namespace Sys2Proof.Machine

open Sys2Proof.Claim

/-! ### The record as judged (R164, R165) -/

theorem inRange_iff (low high : Nat) (b : Byte) : inRange low high b = true ↔ low ≤ b.toNat ∧ b.toNat ≤ high := by
  simp [inRange]

theorem dateTimeOf_given {f : CallerFields} (hp : f.parts.getLsbD 0 = true)
    (hm : 1 ≤ f.month.toNat ∧ f.month.toNat ≤ 12) (hd : 1 ≤ f.day.toNat ∧ f.day.toNat ≤ 31) (hh : f.hour.toNat ≤ 23)
    (hn : f.minute.toNat ≤ 59) :
    dateTimeOf f = some (some { month := f.month, day := f.day, hour := f.hour, minute := f.minute }) := by
  rw [dateTimeOf, if_pos hp, if_pos]
  simp only [Bool.and_eq_true, inRange_iff]
  exact ⟨⟨⟨hm, hd⟩, Nat.zero_le _, hh⟩, Nat.zero_le _, hn⟩

/-- A number of 1 to 15 digits is stored as it is. -/
theorem numberOf_given {f : CallerFields} (h1 : 1 ≤ f.number.length) (h15 : f.number.length ≤ 15)
    (hd : ∀ c ∈ f.number, 0x30 ≤ c.toNat ∧ c.toNat ≤ 0x39) : numberOf f = some (some (.given f.number)) := by
  have hne : f.number.isEmpty = false := List.isEmpty_eq_false_iff.mpr (List.length_pos_iff.mp h1)
  have hdigits : f.number.all (inRange 0x30 0x39) = true :=
    List.all_eq_true.mpr fun c hc => (inRange_iff ..).mpr (hd c hc)
  simp [numberOf, hne, hdigits, h15]

/-- A name whose first 15 characters are printable is stored with these. -/
theorem nameOf_given {f : CallerFields} (h1 : 1 ≤ f.name.length)
    (hp : ∀ c ∈ f.name.take 15, 0x20 ≤ c.toNat ∧ c.toNat ≤ 0x7E) : nameOf f = some (some (.given (f.name.take 15))) := by
  have hne : f.name.isEmpty = false := List.isEmpty_eq_false_iff.mpr (List.length_pos_iff.mp h1)
  rw [nameOf, if_neg (by rw [hne]; nofun), if_pos (List.all_eq_true.mpr fun c hc => (inRange_iff ..).mpr (hp c hc))]

/-- A record whose three parts are in range is stored, one with a date-time never being empty. -/
theorem recordOf_dated {f : CallerFields} {d : DateTime} {n m : Option CallerPart} (hd : dateTimeOf f = some (some d))
    (hn : numberOf f = some n) (hm : nameOf f = some m) :
    recordOf f = some { dateTime := some d, number := n, name := m } := by
  simp [recordOf, hd, hn, hm]

/-- The record of a number withheld, alone. -/
def withheldRecord : CallerRecord := { dateTime := none, number := some (.absent .withheld), name := none }

theorem recordOf_withheld (month day hour minute r₂ : Byte) :
    recordOf ⟨2, month, day, hour, minute, 2, r₂, [], []⟩ = some withheldRecord := by
  simp [recordOf, dateTimeOf, numberOf, nameOf, reasonPart, reasonOf, withheldRecord]

/-! ### The message formed (R166) -/

theorem byteSum_append_neg (bytes : List Byte) : byteSum (bytes ++ [-(byteSum bytes)]) = 0 := by
  simp only [byteSum, List.foldl_append, List.foldl_cons, List.foldl_nil]
  exact BitVec.add_right_neg _

/-- A message's bytes sum to 0 modulo 256. -/
theorem byteSum_formMessage (r : CallerRecord) : byteSum (formMessage r) = 0 := byteSum_append_neg _

/-- Type, length, parameters and a checksum. -/
theorem formMessage_shape (r : CallerRecord) :
    ∃ check, formMessage r = [0x80, byteOf (parameters r).length] ++ parameters r ++ [check] := ⟨_, rfl⟩

/-- The record of a date-time, a number and a name. -/
def fullRecord (d : DateTime) (number name : List Byte) : CallerRecord :=
  { dateTime := some d, number := some (.given number), name := some (.given name) }

theorem parameters_fullRecord (d : DateTime) (number name : List Byte) : parameters (fullRecord d number name)
    = ([0x01, 8] ++ [d.month, d.day, d.hour, d.minute].flatMap twoDigits) ++ ([0x02, byteOf number.length] ++ number)
      ++ ([0x07, byteOf name.length] ++ name) := rfl

theorem parameters_fullRecord_length (d : DateTime) (number name : List Byte) :
    (parameters (fullRecord d number name)).length = 14 + number.length + name.length := by
  simp [parameters_fullRecord, twoDigits]
  omega

/-- The message of a full record, up to its checksum. -/
theorem formMessage_fullRecord (d : DateTime) (number name : List Byte) : ∃ check, formMessage (fullRecord d number name)
    = [0x80, byteOf (14 + number.length + name.length)]
      ++ ([0x01, 8] ++ [d.month, d.day, d.hour, d.minute].flatMap twoDigits) ++ ([0x02, byteOf number.length] ++ number)
      ++ ([0x07, byteOf name.length] ++ name) ++ [check] := by
  obtain ⟨check, h⟩ := formMessage_shape (fullRecord d number name)
  rw [parameters_fullRecord_length, parameters_fullRecord] at h
  exact ⟨check, by simpa only [List.append_assoc] using h⟩

theorem formMessage_withheldRecord : formMessage withheldRecord = [0x80, 0x03, 0x04, 0x01, 0x50, 0x28] := by decide

/-! ### LOAD_CALLER_ID as judged (R164, R165, R185) -/

/-- A record that names no absent reason is of the right form. -/
theorem conflicting_dated (month day hour minute r₁ r₂ : Byte) (number name : List Byte) :
    CallerFields.conflicting ⟨1, month, day, hour, minute, r₁, r₂, number, name⟩ = false :=
  conflicting_eq_false _ (by simp) (by simp)

/-- A record that gives a part together with its absent reason is malformed, whatever its line. -/
theorem doLoadCallerIdBytes_conflicting (p : Port) (tag line : Byte) (f : CallerFields) (s : State)
    (hl : 12 + f.number.length + f.name.length ≤ 256) (hm : f.name.length ≤ 32) (hc : f.conflicting = true) :
    doLoadCallerIdBytes p (Command.of (codeByte .loadCallerId) tag line f.bytes) s = refuse .malformed s := by
  have hlen := callerFields_bytes_length f
  have hargs : (Command.of (codeByte .loadCallerId) tag line f.bytes).args = f.bytes := by
    simp only [Command.of, Config.assemblyKeeps]; exact List.take_of_length_le (by omega)
  rw [doLoadCallerIdBytes, hargs, callerFieldsOf_bytes f (by omega) hm]
  simp [doLoadCallerId, hc]

theorem exec_loadCallerId_conflicting {s : State} {p : Port} (hfree : Free s p) (tag line : Byte) (f : CallerFields)
    (hl : 12 + f.number.length + f.name.length ≤ 256) (hm : f.name.length ≤ 32) (hc : f.conflicting = true) :
    exec (.loadCallerId p tag line f.parts f.month f.day f.hour f.minute f.numberReason f.nameReason f.number f.name) s
      = .next (replied p tag 0x34 .malformed [] s) := by
  refine congrArg Host.Outcome.next ((issue_of_free hfree _ _).trans ?_)
  rw [doLoadCallerIdBytes_conflicting p tag line f s hl hm hc]
  rfl

/-- From the line's owner a record of the right form is judged by the line and its parts. -/
theorem exec_loadCallerId_owned {s : State} {p : Port} {l : Line} (hfree : Free s p) (ho : (s.line l).owner = some p)
    (tag : Byte) (f : CallerFields) (hl : 12 + f.number.length + f.name.length ≤ 256) (hm : f.name.length ≤ 32)
    (hc : f.conflicting = false) :
    exec (.loadCallerId p tag (lineByte l) f.parts f.month f.day f.hour f.minute f.numberReason f.nameReason f.number
      f.name) s = .next (answered p tag 0x34 (loadOnLine f l s)) := by
  refine congrArg Host.Outcome.next ((issue_of_free hfree _ _).trans ?_)
  rw [doLoadCallerIdBytes_formed p tag (lineByte l) f s hl hm hc,
    ownerCommand_owned p _ l _ s (lineOf_lineByte l) ho]
  rfl

theorem inTransmission_iff (c : CallerIdTx) : inTransmission c = true ↔ c.state ≠ .idle := decide_eq_true_iff

theorem loadOnLine_wrongState {f : CallerFields} {l : Line} {s : State}
    (h : (s.line l).sup.state ≠ .onHook ∨ (s.line l).cid.state ≠ .idle) : loadOnLine f l s = refuse .wrongState s :=
  if_pos (h.imp_right (inTransmission_iff _).mpr)

/-- On an ON_HOOK line with no transmission a record in range is loaded with its message. -/
theorem loadOnLine_stored {f : CallerFields} {l : Line} {s : State} {r : CallerRecord}
    (hon : (s.line l).sup.state = .onHook) (hidle : (s.line l).cid.state = .idle) (hr : recordOf f = some r) :
    loadOnLine f l s
      = accept (s.modCid l fun c => { c with loaded := some { record := r, message := formMessage r } })
        (byteOf (formMessage r).length :: natBytes (transmissionSamples (formMessage r).length)) := by
  have hright : ¬ ((s.line l).sup.state ≠ .onHook ∨ inTransmission (s.line l).cid = true) := by
    rw [inTransmission_iff, hon, hidle]; simp
  rw [loadOnLine, if_neg hright, hr]

/-- Settles O45: a full record and a record with the reason PRIVATE alone are loaded; a number beside its absent reason and a line
that may not be loaded are refused. -/
theorem callerIdLoaded : Obligations.CallerIdLoaded := by
  intro p tag month day hour minute r₁ r₂ number name l s hfree ho hn1 hn15 hm1 hm32
  have hne : number.isEmpty = false := List.isEmpty_eq_false_iff.mpr (List.length_pos_iff.mp hn1)
  refine ⟨fun hon hidle hmo1 hmo12 hd1 hd31 hh hmi hdigits hprint => ?full, fun hon hidle => ?withheld, ?both,
    fun hwrong => ?wrong⟩
  case full =>
    obtain ⟨check, hform⟩ := formMessage_fullRecord ⟨month, day, hour, minute⟩ number (name.take 15)
    refine ⟨formMessage _, check, hform, byteSum_formMessage _, ?_⟩
    refine (exec_loadCallerId_owned hfree ho tag ⟨1, month, day, hour, minute, r₁, r₂, number, name⟩
      (by dsimp only; omega) hm32 (conflicting_dated ..)).trans ?_
    have hr := recordOf_dated (f := ⟨1, month, day, hour, minute, r₁, r₂, number, name⟩)
      (dateTimeOf_given (by simp) ⟨hmo1, hmo12⟩ ⟨hd1, hd31⟩ hh hmi) (numberOf_given hn1 hn15 hdigits)
      (nameOf_given hm1 hprint)
    rw [loadOnLine_stored hon hidle hr, answered_accept]
    rfl
  case withheld =>
    refine (exec_loadCallerId_owned hfree ho tag ⟨2, month, day, hour, minute, 2, r₂, [], []⟩ (Nat.le_of_ble_eq_true rfl)
      (Nat.zero_le _) (conflicting_eq_false _ (fun _ => rfl) fun _ => rfl)).trans ?_
    rw [loadOnLine_stored hon hidle (recordOf_withheld ..), answered_accept, formMessage_withheldRecord]
    rfl
  case both =>
    exact exec_loadCallerId_conflicting hfree tag (lineByte l) ⟨2, month, day, hour, minute, r₁, r₂, number, name⟩
      (by dsimp only; omega) hm32 (by simp [CallerFields.conflicting, hne])
  case wrong =>
    refine (exec_loadCallerId_owned hfree ho tag ⟨1, month, day, hour, minute, r₁, r₂, number, name⟩
      (by dsimp only; omega) hm32 (conflicting_dated ..)).trans ?_
    rw [loadOnLine_wrongState hwrong, answered_refuse]

end Sys2Proof.Machine
end

section
/-! SUPPORT. Settled: a caller-ID transmission lasts as many samples as its bits and the fraction accumulator give (R167, R168): after
`k` samples the bit under way is the one whose samples, 20 for each three bits, hold the `k`-th. -/

namespace Sys2Proof.Machine

/-! ### The bits of a transmission (R167) -/

/-- `j` bits of a transmission have been sent: the seizure has 300 of them, the mark 180, and the data section follows. -/
def BitsSent (j : Nat) (c : CallerIdTx) : Prop :=
  (c.state = .seizure ∧ j = c.bitPos ∧ j < 300) ∨ (c.state = .mark ∧ j = 300 + c.bitPos ∧ j < 480)
    ∨ (c.state = .data ∧ j = 480 + c.bitPos)

theorem bitsSent_startTransmission (c : CallerIdTx) : BitsSent 0 (startTransmission c) := .inl ⟨rfl, rfl, by decide⟩

/-- A bit's end is one bit more sent, in the same section or at the start of the next. -/
theorem BitsSent.nextBit {j : Nat} {c : CallerIdTx} (h : BitsSent j c) : BitsSent (j + 1) (nextBit c) := by
  unfold Machine.nextBit
  obtain ⟨hs, hj, hlt⟩ | ⟨hs, hj, hlt⟩ | ⟨hs, hj⟩ := h
  · simp only [hs]
    split
    next hmore => exact .inl ⟨rfl, by dsimp only; omega, by omega⟩
    next hlast => exact .inr (.inl ⟨rfl, by dsimp only; omega, by omega⟩)
  · simp only [hs]
    split
    next hmore => exact .inr (.inl ⟨rfl, by dsimp only; omega, by omega⟩)
    next hlast => exact .inr (.inr ⟨rfl, by dsimp only; omega⟩)
  · simp only [hs]
    exact .inr (.inr ⟨rfl, by dsimp only; omega⟩)

/-- The last stop bit has been sent once the 480 bits before the data and ten bits a byte have. -/
theorem BitsSent.allSent_iff {j : Nat} {c : CallerIdTx} {m : LoadedCallerId} (h : BitsSent j c) (hm : c.loaded = some m) :
    allSent c = true ↔ 480 + 10 * m.message.length ≤ j := by
  have hall : allSent c = true ↔ c.state = .data ∧ 10 * m.message.length ≤ c.bitPos := by
    simp [allSent, messageOf, hm]
  rw [hall]
  obtain ⟨hs, hj, hlt⟩ | ⟨hs, hj, hlt⟩ | ⟨hs, hj⟩ := h
  · simp only [hs, reduceCtorEq, false_and, false_iff]; omega
  · simp only [hs, reduceCtorEq, false_and, false_iff]; omega
  · simp only [hs, true_and]; omega

/-! ### The samples of a bit (R168)

The first `j` bits last `20 * j / 3` samples, and the accumulator holds `2 * j % 3` after them. -/

/-- After `k` samples `j` bits have been sent and the next has not begun. -/
def BitDue (k j : Nat) (c : CallerIdTx) : Prop := c.samplesLeft = 0 ∧ c.accumulator = 2 * j % 3 ∧ k = 20 * j / 3

/-- After `k` samples the bit after the first `j` has samples left. -/
def BitUnderWay (k j : Nat) (c : CallerIdTx) : Prop :=
  0 < c.samplesLeft ∧ c.accumulator = 2 * (j + 1) % 3 ∧ k + c.samplesLeft = 20 * (j + 1) / 3 ∧ 20 * j / 3 ≤ k

/-- The bit after the first `j` lasts 7 samples where the accumulator reaches 3, else 6. -/
theorem bitSamples_succ (j : Nat) : 20 * (j + 1) / 3 = 20 * j / 3 + if 3 ≤ 2 * j % 3 + 2 then 7 else 6 := by
  have hj : 20 * j / 3 = 6 * j + 2 * j / 3 := by omega
  split <;> omega

/-- A bit that is due begins, and lasts 7 samples or 6. -/
theorem BitDue.startBit {k j : Nat} {c : CallerIdTx} (h : BitDue k j c) : BitUnderWay k j (startBit c) := by
  obtain ⟨hleft, hacc, rfl⟩ := h
  have hlast := bitSamples_succ j
  rw [← hacc] at hlast
  unfold Machine.startBit
  rw [if_pos hleft]
  split
  next hseven =>
    rw [if_pos hseven] at hlast
    exact ⟨Nat.succ_pos _, by dsimp only; omega, hlast.symm, Nat.le_refl _⟩
  next hsix =>
    rw [if_neg hsix] at hlast
    exact ⟨Nat.succ_pos _, by dsimp only; omega, hlast.symm, Nat.le_refl _⟩

theorem BitUnderWay.startBit {k j : Nat} {c : CallerIdTx} (h : BitUnderWay k j c) : BitUnderWay k j (startBit c) := by
  rwa [Machine.startBit, if_neg (Nat.pos_iff_ne_zero.mp h.1)]

/-- The start of a bit moves no position. -/
theorem bitsSent_startBit {j : Nat} {c : CallerIdTx} : BitsSent j (startBit c) ↔ BitsSent j c := by
  unfold startBit
  split
  · split <;> rfl
  · rfl

@[simp] theorem startBit_loaded (c : CallerIdTx) : (startBit c).loaded = c.loaded := by
  unfold startBit
  split
  · split <;> rfl
  · rfl

/-- The end of a bit moves the position alone. -/
theorem nextBit_keeps (c : CallerIdTx) : (nextBit c).loaded = c.loaded ∧ (nextBit c).accumulator = c.accumulator
    ∧ (nextBit c).samplesLeft = c.samplesLeft := by
  unfold nextBit
  split
  · split <;> exact ⟨rfl, rfl, rfl⟩
  · split <;> exact ⟨rfl, rfl, rfl⟩
  · exact ⟨rfl, rfl, rfl⟩
  · exact ⟨rfl, rfl, rfl⟩

/-! ### A transmission after `k` samples -/

/-- `m` is under transmission, `k` samples and `j` whole bits of it sent. -/
structure SentSoFar (m : LoadedCallerId) (k j : Nat) (c : CallerIdTx) : Prop where
  loaded : c.loaded = some m
  bits : BitsSent j c
  samples : BitDue k j c ∨ BitUnderWay k j c

theorem sentSoFar_startTransmission {c : CallerIdTx} {m : LoadedCallerId} (h : c.loaded = some m) :
    SentSoFar m 0 0 (startTransmission c) :=
  ⟨h, bitsSent_startTransmission c, .inl ⟨rfl, rfl, rfl⟩⟩

/-- The bit under way after one sample of it. -/
def sampleSent (b : CallerIdTx) : CallerIdTx :=
  { b with phase := (b.phase + bitFrequency (currentBit b)) % 8000, samplesLeft := b.samplesLeft - 1 }

theorem fskAdvance_eq (c : CallerIdTx) : fskAdvance c =
    if (sampleSent (startBit c)).samplesLeft = 0 then nextBit (sampleSent (startBit c)) else sampleSent (startBit c) := rfl

/-- A sample ends its bit or leaves it under way. -/
theorem BitUnderWay.sampleSent {k j : Nat} {b : CallerIdTx} (h : BitUnderWay k j b) :
    if (sampleSent b).samplesLeft = 0 then BitDue (k + 1) (j + 1) (sampleSent b) else BitUnderWay (k + 1) j (sampleSent b) := by
  obtain ⟨hpos, hacc, hend, hbegun⟩ := h
  have hleft : (Machine.sampleSent b).samplesLeft = b.samplesLeft - 1 := rfl
  split
  next hlast => exact ⟨hlast, hacc, by omega⟩
  next hmore => exact ⟨Nat.pos_of_ne_zero hmore, hacc, by omega, by omega⟩

/-- One sample more, and perhaps one bit more, has been sent. -/
theorem SentSoFar.fskAdvance {m : LoadedCallerId} {k j : Nat} {c : CallerIdTx} (h : SentSoFar m k j c) :
    ∃ j', SentSoFar m (k + 1) j' (fskAdvance c) := by
  obtain ⟨hm, hbits, hsamples⟩ := h
  have hloaded : (sampleSent (startBit c)).loaded = some m := (startBit_loaded c).trans hm
  have hbits' : BitsSent j (sampleSent (startBit c)) := bitsSent_startBit.mpr hbits
  have hsent := (hsamples.elim BitDue.startBit BitUnderWay.startBit).sampleSent
  rw [fskAdvance_eq]
  split at hsent
  next hlast =>
    obtain ⟨hload, hacc, hleft⟩ := nextBit_keeps (sampleSent (startBit c))
    rw [if_pos hlast]
    exact ⟨j + 1, hload.trans hloaded, hbits'.nextBit, .inl ⟨hleft.trans hsent.1, hacc.trans hsent.2.1, hsent.2.2⟩⟩
  next hmore =>
    rw [if_neg hmore]
    exact ⟨j, hloaded, hbits', .inr hsent⟩

theorem exists_sentSoFar {c : CallerIdTx} {m : LoadedCallerId} (h : c.loaded = some m) (k : Nat) :
    ∃ j, SentSoFar m k j (fskAdvance^[k] (startTransmission c)) := by
  induction k with
  | zero => exact ⟨0, sentSoFar_startTransmission h⟩
  | succ k ih =>
    obtain ⟨j, hj⟩ := ih
    rw [Function.iterate_succ_apply']
    exact hj.fskAdvance

/-- The `k`-th sample lies in the bit after the first `j`. -/
theorem SentSoFar.within {m : LoadedCallerId} {k j : Nat} {c : CallerIdTx} (h : SentSoFar m k j c) :
    20 * j / 3 ≤ k ∧ k < 20 * (j + 1) / 3 := by
  obtain ⟨-, -, ⟨-, -, hk⟩ | ⟨hpos, -, hend, hbegun⟩⟩ := h <;> omega

/-- The samples that the rule counts by whole threes of bits are those of all the bits. -/
theorem transmissionSamples_eq (n : Nat) : transmissionSamples n = 20 * (480 + 10 * n) / 3 := by
  simp only [transmissionSamples]
  split
  · omega
  · split <;> omega

/-- All is sent from the transmission's last sample on and not before. -/
theorem allSent_iterate_iff {c : CallerIdTx} {m : LoadedCallerId} (h : c.loaded = some m) (k : Nat) :
    allSent (fskAdvance^[k] (startTransmission c)) = true ↔ transmissionSamples m.message.length ≤ k := by
  obtain ⟨j, hj⟩ := exists_sentSoFar h k
  obtain ⟨hbegun, hend⟩ := hj.within
  rw [hj.bits.allSent_iff hj.loaded, transmissionSamples_eq]
  omega

/-- Settles O46: the sample count is the one that `transmissionSamples` gives. -/
theorem transmissionLasts : Obligations.TransmissionLasts := by
  intro c m hm
  exact ⟨(allSent_iterate_iff hm _).mpr (Nat.le_refl _),
    fun k hk => Bool.eq_false_iff.mpr (mt (allSent_iterate_iff hm k).mp (Nat.not_le.mpr hk))⟩

end Sys2Proof.Machine
end

section
/-! SUPPORT. Settled: the port's own commands and its notices with the attention line; the issue of every command row, at once, to the
FIFO or lost, and from its COMMAND message (R177, R181, R182, R185 to R190). -/

namespace Sys2Proof.Machine

open Sys2Proof.Claim

/-! ### The attention line (R187, R190) -/

/-- Each of the 15 flags is some notice's. -/
theorem exists_notice_of_bit {i : Nat} (h : i < 15) : ∃ n : Notice, n.bit = i := by
  interval_cases i
  exacts [⟨.events .one, rfl⟩, ⟨.events .two, rfl⟩, ⟨.unownedActivity .one, rfl⟩, ⟨.unownedActivity .two, rfl⟩,
    ⟨.ownershipLost .one, rfl⟩, ⟨.ownershipLost .two, rfl⟩, ⟨.ownershipGiven .one, rfl⟩, ⟨.ownershipGiven .two, rfl⟩,
    ⟨.agreementChanged .one, rfl⟩, ⟨.agreementChanged .two, rfl⟩, ⟨.playoutAlert .one, rfl⟩, ⟨.playoutAlert .two, rfl⟩,
    ⟨.commandOverrun, rfl⟩, ⟨.framing, rfl⟩, ⟨.resetDone, rfl⟩]

/-- Flags masked by the low 15 enables are the notices latched and enabled. -/
theorem enabledFlags_ne_zero_iff (flags : BitVec 15) (mask : BitVec 16) :
    flags &&& mask.extractLsb' 0 15 ≠ 0#15 ↔ ∃ n : Notice, isLatched flags n = true ∧ mask.getLsbD n.bit = true := by
  have hbit (i : Nat) (hi : i < 15) :
      (flags &&& mask.extractLsb' 0 15).getLsbD i = (flags.getLsbD i && mask.getLsbD i) := by
    simp [hi]
  constructor
  · contrapose!
    intro hnone
    refine BitVec.eq_of_getLsbD_eq fun i hi => ?_
    obtain ⟨n, rfl⟩ := exists_notice_of_bit hi
    rw [hbit _ hi, BitVec.getLsbD_zero, Bool.and_eq_false_iff, ← Bool.not_eq_true, ← Bool.not_eq_true]
    exact Classical.or_iff_not_imp_left.mpr fun hl => hnone n (not_not.mp hl)
  · rintro ⟨n, hl, hm⟩ h0
    have h := hbit n.bit (notice_bit_lt n)
    rw [h0, hm, show flags.getLsbD n.bit = true from hl, BitVec.getLsbD_zero] at h
    cases h

/-- Settles O7. -/
theorem attentionLineFollows : Obligations.AttentionLineFollows := by
  intro q
  rw [← enabledFlags_ne_zero_iff]
  simp [attentionLow]

/-! ### The port's own commands (R185, R186, R188, R189) -/

/-- Settles O4. -/
theorem nopAndUnknownReply : Obligations.NopAndUnknownReply := fun _ _ _ _ hf =>
  ⟨congrArg _ (issue_of_free hf _ doNop), fun _ _ _ => congrArg _ (issue_of_free hf _ doUnknownCommand)⟩

/-- The two bytes of the flags; the 16th bit is 0 (R188). -/
theorem wordBytes_flags (flags : BitVec 15) :
    wordBytes (flags.zeroExtend 16) = [BitVec.zeroExtend 8 (flags.extractLsb' 8 7), flags.extractLsb' 0 8] := by
  have hhigh : hiByte (flags.zeroExtend 16) = BitVec.zeroExtend 8 (flags.extractLsb' 8 7) := by
    refine BitVec.eq_of_getLsbD_eq fun i hi => ?_
    simp only [hiByte, BitVec.getLsbD_extractLsb', BitVec.getLsbD_setWidth]
    grind
  have hlow : loByte (flags.zeroExtend 16) = flags.extractLsb' 0 8 := by
    refine BitVec.eq_of_getLsbD_eq fun i hi => ?_
    simp only [loByte, BitVec.getLsbD_extractLsb', BitVec.getLsbD_setWidth]
    grind
  rw [wordBytes, hhigh, hlow]

/-- Settles O5: the reply holds `noticesBytes`, and what is latched later is latched over cleared flags. -/
theorem readNoticesTakesAndClears : Obligations.ReadNoticesTakesAndClears := by
  intro p tag line s hf
  refine ⟨congrArg _ ((issue_of_free hf _ _).trans ?_), fun t _ n => isLatched_latch p n t⟩
  simp only [doReadNotices, accept, noticesBytes, wordBytes_flags]
  rfl

/-- Settles O6: the attention line after it is R190's of the port with the new mask. -/
theorem noticeMaskReplaced : Obligations.NoticeMaskReplaced := by
  intro p tag line mask s hf
  have hexec : exec (.setNoticeMask p tag line mask) s = .next (replied p tag 0x03 .ok [hiByte mask, loByte mask]
      (s.modPort p fun q => { q with mask := mask })) := congrArg _ (issue_of_free hf _ _)
  refine ⟨_, hexec, rfl, ?_, fun n => isLatched_latch p n _⟩
  have hmask : ((replied p tag 0x03 .ok [hiByte mask, loByte mask]
      (s.modPort p fun q => { q with mask := mask })).port p).mask = mask := by simp [replied]
  rw [attentionLineFollows, hmask]

/-! ### The issue of a command row (R177, R181, R182, R185) -/

theorem commandOf_eq_none {code : Byte} (h : code ∉ tableCodes) : commandOf code = none := by
  have htable : tableCodes = allCommands.map codeByte := rfl
  rw [htable, List.mem_map] at h
  refine List.find?_eq_none.mpr fun k hk he => h ⟨k, hk, eq_of_beq he⟩

/-- A command with a code of the table and the right length executes as that command. -/
theorem perform_known {p : Port} {k : CommandCode} {c : Command} (hc : c.code = codeByte k) (hl : lengthFits k c = true)
    (s : State) : perform p c s = run k p c s := by
  rw [perform, hc, commandOf_codeByte]
  exact if_pos hl

theorem perform_unknown {p : Port} {c : Command} (hc : commandOf c.code = none) (s : State) :
    perform p c s = refuse .unknown s := by
  rw [perform, hc]

theorem perform_malformed {p : Port} {k : CommandCode} {c : Command} (hc : c.code = codeByte k)
    (hl : lengthFits k c = false) (s : State) : perform p c s = refuse .malformed s := by
  rw [perform, hc, commandOf_codeByte]
  exact if_neg (by rw [hl]; nofun)

/-- A row is the issue of command `cmd` at port `p`, `act` being its execution. -/
def IssuesAs (c : Instr) (p : Port) (cmd : Command) (act : State → Answer) : Prop :=
  ∀ s, exec c s = .next (issue p cmd act s)

/-- A row whose own execution is the one of its message's command. -/
theorem issuesAs_perform_of_run {c : Instr} {p : Port} {k : CommandCode} {tag line : Byte} {args : List Byte}
    {act : State → Answer} (h : IssuesAs c p (Command.of (codeByte k) tag line args) act)
    (hlen : lengthFits k (Command.of (codeByte k) tag line args) = true)
    (hrun : ∀ s, run k p (Command.of (codeByte k) tag line args) s = act s) :
    IssuesAs c p (Command.of (codeByte k) tag line args) (perform p (Command.of (codeByte k) tag line args)) := by
  have hact : perform p (Command.of (codeByte k) tag line args) = act :=
    funext fun s => (perform_known rfl hlen s).trans (hrun s)
  rwa [hact]

/-- Every command row but UNKNOWN_COMMAND issues the command that its message carries, with that command's execution. -/
theorem issuesAs_perform {c : Instr} {p : Port} {code tag line : Byte} {args : List Byte}
    (h : commandMessage c = some (p, code :: tag :: line :: args))
    (hu : c ≠ .unknownCommand p code tag line args) :
    IssuesAs c p (Command.of code tag line args) (perform p (Command.of code tag line args)) := by
  cases c <;> cases h
  case unknownCommand => exact absurd rfl hu
  case setNoticeMask mask =>
    refine issuesAs_perform_of_run (fun _ => rfl) rfl fun s => ?_
    show doSetNoticeMask p (wordOf (hiByte mask) (loByte mask)) s = doSetNoticeMask p mask s
    rw [wordOf_bytes]
  case claim owner g =>
    refine issuesAs_perform_of_run (fun _ => rfl) rfl fun s => ?_
    show doClaim p line owner (wordOf (hiByte g) (loByte g)) s = doClaim p line owner g s
    rw [wordOf_bytes]
  case setHookTiming t1 t2 t3 t4 t5 t6 =>
    refine issuesAs_perform_of_run (fun _ => rfl) rfl fun s => ?_
    show doSetHookTiming p line (wordOf (hiByte t1) (loByte t1)) (wordOf (hiByte t2) (loByte t2))
      (wordOf (hiByte t3) (loByte t3)) (wordOf (hiByte t4) (loByte t4)) (wordOf (hiByte t5) (loByte t5))
      (wordOf (hiByte t6) (loByte t6)) s = doSetHookTiming p line t1 t2 t3 t4 t5 t6 s
    simp only [wordOf_bytes]
  case channelOpen ability present tmin tmax target kv kd relay triggers =>
    refine issuesAs_perform_of_run (fun _ => rfl) rfl fun s => ?_
    show doChannelOpen p line ability present (wordOf (hiByte tmin) (loByte tmin)) (wordOf (hiByte tmax) (loByte tmax))
      (wordOf (hiByte target) (loByte target)) kv kd relay triggers s
      = doChannelOpen p line ability present tmin tmax target kv kd relay triggers s
    simp only [wordOf_bytes]
  all_goals exact issuesAs_perform_of_run (fun _ => rfl) rfl fun _ => rfl

/-- Every command row issues the command that its message carries. -/
theorem issuesAs_of_commandMessage {c : Instr} {p : Port} {code tag line : Byte} {args : List Byte}
    (h : commandMessage c = some (p, code :: tag :: line :: args)) :
    ∃ act, IssuesAs c p (Command.of code tag line args) act := by
  by_cases hu : c = .unknownCommand p code tag line args
  · exact ⟨doUnknownCommand, fun s => by rw [hu]; rfl⟩
  · exact ⟨_, issuesAs_perform h hu⟩

/-- A well-formed command row, also one with an unknown code, executes as its message does. -/
theorem issuesAs_perform_of_wellFormed {c : Instr} {p : Port} {code tag line : Byte} {args : List Byte}
    (hw : c.wellFormed = true) (h : commandMessage c = some (p, code :: tag :: line :: args)) :
    IssuesAs c p (Command.of code tag line args) (perform p (Command.of code tag line args)) := by
  by_cases hu : c = .unknownCommand p code tag line args
  · subst hu
    have hnone : commandOf code = none := by
      simpa using (Bool.and_eq_true_iff.mp hw).1
    have hact : perform p (Command.of code tag line args) = doUnknownCommand := funext (perform_unknown hnone)
    intro s
    rw [hact]
    rfl
  · exact issuesAs_perform h hu

/-- A command message's body holds code, tag and line field. -/
theorem commandMessage_body {c : Instr} {p : Port} {body : List Byte} (h : commandMessage c = some (p, body)) :
    ∃ code tag line args, body = code :: tag :: line :: args := by
  cases c <;> cases h <;> exact ⟨_, _, _, _, rfl⟩

/-- COMMAND_TAKEN in a WRITE issues the command of its body. -/
theorem exec_commandTaken {p : Port} {s : State} (hw : (s.port p).transaction = .write) (code tag line : Byte)
    (args : List Byte) : exec (.commandTaken p (code :: tag :: line :: args)) s
      = .next (issue p (Command.of code tag line args) (perform p (Command.of code tag line args)) s) :=
  congrArg _ (if_pos (decide_eq_true hw))

/-- Settles O10: both issue one command with one execution. -/
theorem encodedCommandActsAsItsRow : Obligations.EncodedCommandActsAsItsRow := by
  intro c s p body hw hc ht
  obtain ⟨code, tag, line, args, rfl⟩ := commandMessage_body hc
  rw [exec_commandTaken ht, issuesAs_perform_of_wellFormed hw hc s]

/-- A command that may not execute joins the FIFO while fewer than four wait, and is lost with four waiting (R181). -/
theorem enqueueCommand_cases (p : Port) (c : Command) (s : State) :
    ((s.port p).fifo.length < 4 → enqueueCommand p c s = s.modPort p fun q => { q with fifo := q.fifo ++ [c] })
    ∧ ((s.port p).fifo.length = 4 → enqueueCommand p c s = s.modPort p fun q =>
        { q with flags := q.flags ||| BitVec.twoPow 15 12, lostCommands := satAdd q.lostCommands 1 }) := by
  refine ⟨fun hlt => if_pos hlt, fun h4 => ?_⟩
  rw [enqueueCommand, if_neg (by rw [h4]; decide), latch, modPort_comp]
  rfl

/-- Settles O8: a row and its COMMAND alike issue the command, which here may not execute. -/
theorem commandWaitsOrIsLost : Obligations.CommandWaitsOrIsLost := by
  intro c p code tag line args s hrow hbusy
  have hissue : ∃ act, exec c s = .next (issue p (waiting code tag line args) act s) := by
    obtain hc | ⟨rfl, hw⟩ := hrow
    · obtain ⟨act, hact⟩ := issuesAs_of_commandMessage hc
      exact ⟨act, hact s⟩
    · exact ⟨_, exec_commandTaken hw code tag line args⟩
  have hnot : executesAtOnce s p = false := by
    rw [← Bool.not_eq_true, executesAtOnce, Bool.and_eq_true, List.isEmpty_iff, decide_eq_true_iff]
    rintro ⟨hf, hr⟩
    exact hbusy.elim (absurd hf) (absurd hr ∘ Nat.not_lt.mpr)
  obtain ⟨act, hexec⟩ := hissue
  obtain ⟨hjoins, hlost⟩ := enqueueCommand_cases p (waiting code tag line args) s
  rw [hexec, issue_waits p _ act s hnot]
  exact ⟨fun h => congrArg _ (hjoins h), fun h => congrArg _ (hlost h)⟩

/-! ### What is taken in a WRITE (R177, R185) -/

theorem lengthFits_false {k : CommandCode} {c : Command} (hk : k ≠ .loadCallerId) (h : c.length ≠ 3 + argLength k) :
    lengthFits k c = false := by
  unfold lengthFits
  split
  · exact absurd rfl hk
  · exact decide_eq_false h

/-- Settles O9: the issued command is judged by code and length. -/
theorem takenCommandsAndForeign : Obligations.TakenCommandsAndForeign := by
  intro p s hw
  have hin : inWrite s p = true := decide_eq_true hw
  refine ⟨fun hf tag line => ?_, fun body hlen => ?_, fun type body => congrArg _ (if_pos hin)⟩
  · have hexec (code : Byte) (args : List Byte) : exec (.commandTaken p (code :: tag :: line :: args)) s
        = .next (answered p tag code (perform p (Command.of code tag line args) s)) := by
      rw [exec_commandTaken hw, issue_of_free hf]
      rfl
    refine ⟨?_, fun k args hk hlen => ?_, fun code args hcode => ?_⟩
    · rw [hexec, perform_known (k := .nop) rfl rfl]
      rfl
    · have hfits : lengthFits k (Command.of (codeByte k) tag line args) = false :=
        lengthFits_false hk fun h : args.length + 3 = 3 + argLength k => hlen (by omega)
      rw [hexec, perform_malformed (k := k) rfl hfits, answered_refuse]
    · rw [hexec, perform_unknown (commandOf_eq_none hcode), answered_refuse]
  · refine congrArg _ ((if_pos hin).trans ?_)
    match body, hlen with
    | [], _ => rfl
    | [_], _ => rfl
    | [_, _], _ => rfl

end Sys2Proof.Machine
end

section
/-! SUPPORT. Settled: the beginning and the end of a transaction, and the bytes on serial data out (R176 to R179). -/

namespace Sys2Proof.Machine

open Sys2Proof.Claim

/-! ### Serial data out (R176, R179) -/

/-- A reply as a message: its type, its body's length and its body (spec 10.3). -/
theorem reply_bytes (r : Reply) : (Message.reply r).bytes = 0x20 :: hiByte (BitVec.ofNat 16 (replyBody r).length)
    :: loByte (BitVec.ofNat 16 (replyBody r).length) :: replyBody r := rfl

theorem messageUnderWay_reply {q : PortLink} {r : Reply} {ms : List Message}
    (h : (q.sending = .head ∧ q.outbound = .reply r :: ms) ∨ q.sending = .departed (.reply r)) :
    messageUnderWay q = (Message.reply r).bytes := by
  unfold messageUnderWay
  obtain ⟨hs, ho⟩ | hs := h
  · rw [hs, ho]
  · rw [hs]

/-- In a READ at a message's first byte the part sends the message under way. -/
theorem dataOut_messageUnderWay {q : PortLink} (ht : q.transaction = .read) (hs : q.sentBytes = 0) (n : Nat) :
    dataOut q n = (messageUnderWay q).getD n 0 := by
  rw [dataOut_read q n ht, hs, Nat.zero_add]

theorem dataOut_emptyMessage {q : PortLink} (ht : q.transaction = .read) (hs : q.sentBytes = 0)
    (he : q.sending = .emptyMessage) {n : Nat} (hn : n < 3) : dataOut q n = 0 := by
  rw [dataOut_messageUnderWay ht hs, messageUnderWay, he]
  match n, hn with
  | 0, _ => rfl
  | 1, _ => rfl
  | 2, _ => rfl

/-! ### The assembly (R177, R178) -/

/-- Behind a whole header every byte is counted. -/
theorem foldl_push_body (bs : List Byte) : ∀ a : Assembly, 3 ≤ a.header.length →
    (bs.foldl Assembly.push a).header = a.header ∧ (bs.foldl Assembly.push a).count = a.count + bs.length := by
  induction bs with
  | nil => exact fun a _ => ⟨rfl, rfl⟩
  | cons b bs ih =>
    intro a ha
    have hpush : (a.push b).header = a.header ∧ (a.push b).count = a.count + 1 := by
      unfold Assembly.push
      rw [if_neg (Nat.not_lt.mpr ha)]
      split <;> exact ⟨rfl, rfl⟩
    obtain ⟨hh, hc⟩ := ih (a.push b) (by rw [hpush.1]; exact ha)
    rw [List.foldl_cons, hh, hc, hpush.1, hpush.2, List.length_cons]
    exact ⟨rfl, by omega⟩

/-- The first part of a message leaves it under way. -/
theorem underWay_of_cutsShort {clocked : List Byte} (h : CutsShort clocked) :
    (clocked.foldl Assembly.push Assembly.empty).underWay = true := by
  obtain ⟨hne, hshort | ⟨type, hi, lo, body, rfl, hlen⟩⟩ := h
  · match clocked, hne, hshort with
    | [_], _, _ => rfl
    | [_, _], _, _ => rfl
  · obtain ⟨hheader, hcount⟩ := foldl_push_body body ⟨[type, hi, lo], [], 0⟩ (Nat.le_refl 3)
    show (body.foldl Assembly.push ⟨[type, hi, lo], [], 0⟩).underWay = true
    rw [Assembly.underWay, Assembly.bodyLength, hheader, hcount]
    simpa [wordOf_toNat] using hlen

theorem cutsMessage_of_cutsShort {q : PortLink} {clocked : List Byte} (ht : q.transaction = .write)
    (ha : q.assembly = Assembly.empty) (h : CutsShort clocked) : cutsMessage q clocked = true := by
  rw [cutsMessage, assembled, ht, ha, underWay_of_cutsShort h]
  rfl

/-- With nothing clocked in after the last whole message nothing is cut. -/
theorem cutsMessage_nil {q : PortLink} (h : q.transaction ≠ .write ∨ q.assembly = Assembly.empty) :
    cutsMessage q [] = false := by
  obtain h | h := h
  · rw [cutsMessage, decide_eq_false h]
    rfl
  · rw [cutsMessage, assembled, h]
    exact Bool.and_false _

/-! ### Transactions -/

/-- With no transaction chip select begins one by its kind byte. -/
theorem exec_chipSelectLow {p : Port} {s : State} (h : (s.port p).transaction = .none) (kind : Option Byte) :
    exec (.chipSelectLow p kind) s = .next (s.modPort p (beginTransaction kind)) := congrArg _ (if_pos h)

theorem beginTransaction_other {k : Byte} (hw : k ≠ 0xA1) (hr : k ≠ 0xA2) (q : PortLink) :
    beginTransaction (some k) q = { q with transaction := .ignored } := by
  rw [beginTransaction, if_neg hw, if_neg hr]

theorem lookAtQueue_eq (q : PortLink) :
    lookAtQueue q = { q with sending := if q.outbound = [] then .emptyMessage else .head, sentBytes := 0 } := by
  simp only [lookAtQueue, List.isEmpty_iff]

theorem beginTransaction_read (q : PortLink) : beginTransaction (some 0xA2) q =
    { q with transaction := .read, sending := if q.outbound = [] then .emptyMessage else .head, sentBytes := 0 } :=
  lookAtQueue_eq _

/-- Settles O11. -/
theorem transactionsBeginAndEnd : Obligations.TransactionsBeginAndEnd := by
  intro p s
  refine ⟨fun hnone => ⟨exec_chipSelectLow hnone _, ?_, fun k hw hr => ?_, exec_chipSelectLow hnone _⟩,
    fun q => ⟨fun hq n => dataOut_outside_read q n hq, fun ht hs => ⟨fun he n hn => dataOut_emptyMessage ht hs he hn, ?_⟩⟩,
    fun ht ha clocked hcut => ?_, fun h => ?_⟩
  · rw [exec_chipSelectLow hnone, funext beginTransaction_read]
  · rw [exec_chipSelectLow hnone, funext (beginTransaction_other hw hr)]
  · rintro r ms body hbody h
    have hout (n : Nat) : dataOut q n = (Message.reply r).bytes.getD n 0 := by
      rw [dataOut_messageUnderWay ht hs, messageUnderWay_reply h]
    rw [show body = replyBody r from hbody]
    refine ⟨hout 0, hout 1, hout 2, fun n v hv => ?_⟩
    rw [hout, reply_bytes]
    simp [hv]
  · refine congrArg _ ((if_pos (cutsMessage_of_cutsShort ht ha hcut)).trans ?_)
    rw [latch, modPort_comp, modPort_comp]
    rfl
  · refine congrArg _ (if_neg ?_)
    rw [cutsMessage_nil h]
    nofun

end Sys2Proof.Machine
end

section
/-! SUPPORT. Work that does not see the port queues: it commutes with every change of a FIFO and an outbound queue, and so leaves both
as they were. Said once for each operation of the units (R181 to R184). -/

namespace Sys2Proof.Machine

open Sys2Proof.Claim

/-! ### A change of a port's queues -/

/-- The FIFO of port `p` changed by `f` and its outbound queue by `g`. -/
def requeue (p : Port) (f : List Command → List Command) (g : List Message → List Message) (s : State) : State :=
  s.modPort p fun q => { q with fifo := f q.fifo, outbound := g q.outbound }

variable {p : Port} {f : List Command → List Command} {g : List Message → List Message}

@[simp] theorem line_requeue (s : State) (l : Line) : (requeue p f g s).line l = s.line l := line_modPort ..

@[simp] theorem requeue_line1 (s : State) : (requeue p f g s).line1 = s.line1 := modPort_line1 ..

@[simp] theorem requeue_line2 (s : State) : (requeue p f g s).line2 = s.line2 := modPort_line2 ..

@[simp] theorem requeue_ring (s : State) : (requeue p f g s).ring = s.ring := modPort_ring ..

@[simp] theorem requeue_steps (s : State) : (requeue p f g s).steps = s.steps := modPort_steps ..

@[simp] theorem requeue_pairs (s : State) : (requeue p f g s).pairs = s.pairs := modPort_pairs ..

@[simp] theorem requeue_tick (s : State) : (requeue p f g s).tick = s.tick := modPort_tick ..

theorem requeue_ite (c : Prop) [Decidable c] (s u : State) :
    requeue p f g (if c then s else u) = if c then requeue p f g s else requeue p f g u := apply_ite ..

/-- What commutes with every change of a port's queues leaves them as they were. -/
theorem port_queues_of_requeue {w : State → State} {p : Port}
    (h : ∀ f g s, w (requeue p f g s) = requeue p f g (w s)) (s : State) :
    ((w s).port p).fifo = (s.port p).fifo ∧ ((w s).port p).outbound = (s.port p).outbound := by
  have hsame : requeue p (fun _ => (s.port p).fifo) (fun _ => (s.port p).outbound) s = s := by cases p <;> rfl
  have hw := h (fun _ => (s.port p).fifo) (fun _ => (s.port p).outbound) s
  rw [hsame] at hw
  rw [hw, requeue, port_modPort_same]
  exact ⟨rfl, rfl⟩

/-! ### The shared operations -/

@[simp] theorem modLine_requeue (s : State) (l : Line) (k : LineState → LineState) :
    (requeue p f g s).modLine l k = requeue p f g (s.modLine l k) := by
  cases p <;> cases l <;> rfl

@[simp] theorem modSup_requeue (s : State) (l : Line) (k : Supervisor → Supervisor) :
    (requeue p f g s).modSup l k = requeue p f g (s.modSup l k) := modLine_requeue ..

@[simp] theorem modCad_requeue (s : State) (l : Line) (k : CadenceEngine → CadenceEngine) :
    (requeue p f g s).modCad l k = requeue p f g (s.modCad l k) := modLine_requeue ..

@[simp] theorem modCid_requeue (s : State) (l : Line) (k : CallerIdTx → CallerIdTx) :
    (requeue p f g s).modCid l k = requeue p f g (s.modCid l k) := modLine_requeue ..

@[simp] theorem modChan_requeue (s : State) (l : Line) (k : MediaChannel → MediaChannel) :
    (requeue p f g s).modChan l k = requeue p f g (s.modChan l k) := modLine_requeue ..

@[simp] theorem modBuf_requeue (s : State) (l : Line) (k : PlayoutBuffer → PlayoutBuffer) :
    (requeue p f g s).modBuf l k = requeue p f g (s.modBuf l k) := modLine_requeue ..

@[simp] theorem modCtr_requeue (s : State) (l : Line) (k : ChannelCounters → ChannelCounters) :
    (requeue p f g s).modCtr l k = requeue p f g (s.modCtr l k) := modLine_requeue ..

@[simp] theorem modRing_requeue (s : State) (k : RingArbiter → RingArbiter) :
    (requeue p f g s).modRing k = requeue p f g (s.modRing k) := by
  cases p <;> rfl

@[simp] theorem latch_requeue (q : Port) (n : Notice) (s : State) :
    latch q n (requeue p f g s) = requeue p f g (latch q n s) := by
  cases p <;> cases q <;> rfl

@[simp] theorem latchOwner_requeue (l : Line) (n : Notice) (s : State) :
    latchOwner l n (requeue p f g s) = requeue p f g (latchOwner l n s) := by
  unfold latchOwner
  rw [line_requeue]
  split <;> simp

@[simp] theorem storeEvent_requeue (l : Line) (e : EventRecord) (s : State) :
    storeEvent l e (requeue p f g s) = requeue p f g (storeEvent l e s) := by
  unfold storeEvent noticeEvent
  rw [modLine_requeue, line_requeue]
  split <;> simp

@[simp] theorem storePlain_requeue (l : Line) (k : EventKind) (v : Byte) (d : Nat) (s : State) :
    storePlain l k v d (requeue p f g s) = requeue p f g (storePlain l k v d s) := by simp [storePlain]

@[simp] theorem emit_requeue (l : Line) (k : EventKind) (v : Byte) (d : Nat) (t : Bool) (s : State) :
    emit l k v d t (requeue p f g s) = requeue p f g (emit l k v d t s) := by simp [emit]

/-! ### Ringing (R149 to R162) -/

@[simp] theorem grantHead_requeue (s : State) : grantHead (requeue p f g s) = requeue p f g (grantHead s) := by
  unfold grantHead
  rw [requeue_ring]
  split <;> simp

@[simp] theorem ringRequest_requeue (l : Line) (s : State) :
    ringRequest l (requeue p f g s) = requeue p f g (ringRequest l s) := by
  unfold ringRequest
  dsimp only
  rw [requeue_ring]
  split <;> simp

@[simp] theorem judgeFeeds_requeue (s : State) : judgeFeeds (requeue p f g s) = requeue p f g (judgeFeeds s) := by
  simp [judgeFeeds, warmFeed]

@[simp] theorem judgeKeepWarm_requeue (s : State) :
    judgeKeepWarm (requeue p f g s) = requeue p f g (judgeKeepWarm s) := by
  simp [judgeKeepWarm, judgementDue, nobodyRings, requeue_ite]

@[simp] theorem judgeLastEnd_requeue (s : State) : judgeLastEnd (requeue p f g s) = requeue p f g (judgeLastEnd s) := by
  simp [judgeLastEnd, judgementDue, nobodyRings, requeue_ite]

@[simp] theorem feedChanged_requeue (s : State) : feedChanged (requeue p f g s) = requeue p f g (feedChanged s) := by
  simp [feedChanged, judgementStands, nobodyRings, warmFeed, requeue_ite]

@[simp] theorem endRinging_requeue (b : Bool) (l : Line) (s : State) :
    endRinging b l (requeue p f g s) = requeue p f g (endRinging b l s) := by
  simp [endRinging, requeue_ite]

@[simp] theorem stopCallerId_requeue (l : Line) (s : State) :
    stopCallerId l (requeue p f g s) = requeue p f g (stopCallerId l s) := by simp [stopCallerId, requeue_ite]

/-! ### Cadences (R141 to R147) -/

@[simp] theorem endCadence_requeue (l : Line) (s : State) :
    endCadence l (requeue p f g s) = requeue p f g (endCadence l s) := by simp [endCadence, requeue_ite]

@[simp] theorem stopRing_requeue (l : Line) (s : State) :
    stopRing l (requeue p f g s) = requeue p f g (stopRing l s) := by simp [stopRing, requeue_ite]

@[simp] theorem stopTone_requeue (l : Line) (s : State) :
    stopTone l (requeue p f g s) = requeue p f g (stopTone l s) := by simp [stopTone, requeue_ite]

theorem beginStep_requeue (l : Line) (b : Option TonePair) (n : Nat) :
    ∀ (i : Fin 64) (s : State), beginStep l b n i (requeue p f g s) = requeue p f g (beginStep l b n i s) := by
  induction n with
  | zero => exact fun i s => endCadence_requeue l s
  | succ n ih =>
    intro i s
    unfold beginStep
    simp only [line_requeue, requeue_steps]
    cases stepEffect (s.line l) i s.steps[i] with
    | timed => exact modLine_requeue ..
    | tone => simp [beginTone]
    | ring => simp [beginRing]
    | cid => simp [beginCid]
    | stop => exact endCadence_requeue l s
    | leadsTo next register =>
      cases next with
      | some j => simp only [modCad_requeue, endCadence_requeue, ih, requeue_ite]
      | none => simp only [modCad_requeue, endCadence_requeue, requeue_ite]

@[simp] theorem advanceCadence_requeue (l : Line) (s : State) :
    advanceCadence l (requeue p f g s) = requeue p f g (advanceCadence l s) := by
  unfold advanceCadence
  simp only [line_requeue]
  split
  · rw [modCad_requeue, beginStep_requeue]
  · exact endCadence_requeue l s

@[simp] theorem startCadence_requeue (k : CadenceKind) (l : Line) (i : Fin 64) (s : State) :
    startCadence k l i (requeue p f g s) = requeue p f g (startCadence k l i s) := by
  simp [startCadence, ← requeue_ite, beginStep_requeue]

@[simp] theorem completeTransmission_requeue (l : Line) (s : State) :
    completeTransmission l (requeue p f g s) = requeue p f g (completeTransmission l s) := by
  simp [completeTransmission, requeue_ite]

/-! ### Mode agreement and its triggers (R36, R44, R45) -/

@[simp] theorem setAgreement_requeue (l : Line) (a : Agreement) (s : State) :
    setAgreement l a (requeue p f g s) = requeue p f g (setAgreement l a s) := by simp [setAgreement, requeue_ite]

@[simp] theorem changeMode_requeue (l : Line) (m : Mode) (s : State) :
    changeMode l m (requeue p f g s) = requeue p f g (changeMode l m s) := by simp [changeMode, requeue_ite]

@[simp] theorem restartAgreement_requeue (l : Line) (s : State) :
    restartAgreement l (requeue p f g s) = requeue p f g (restartAgreement l s) := by simp [restartAgreement]

@[simp] theorem upspeed_requeue (l : Line) (t : UpspeedTrigger) (s : State) :
    upspeed l t (requeue p f g s) = requeue p f g (upspeed l t s) := by simp [upspeed, requeue_ite]

/-! ### Detectors (R116, R117, R126) -/

theorem applyFindings_requeue (l : Line) (fs : List Finding) :
    ∀ s : State, applyFindings l fs (requeue p f g s) = requeue p f g (applyFindings l fs s) := by
  induction fs with
  | nil => exact fun s => rfl
  | cons x fs ih =>
    intro s
    have hx : applyFinding l (requeue p f g s) x = requeue p f g (applyFinding l s x) := by
      unfold applyFinding
      split <;> simp
    exact (congrArg (applyFindings l fs) hx).trans (ih _)

@[simp] theorem followDetectors_requeue (l : Line) (s : State) :
    followDetectors l (requeue p f g s) = requeue p f g (followDetectors l s) := by
  simp [followDetectors, applyFindings_requeue]

/-! ### Loop supervision (R97 to R114) -/

@[simp] theorem setFeedMode_requeue (l : Line) (m : FeedMode) (s : State) :
    setFeedMode l m (requeue p f g s) = requeue p f g (setFeedMode l m s) := by simp [setFeedMode, requeue_ite]

@[simp] theorem wake_requeue (l : Line) (s : State) : wake l (requeue p f g s) = requeue p f g (wake l s) := by
  simp [wake, requeue_ite]

@[simp] theorem completeQualification_requeue (l : Line) (s : State) :
    completeQualification l (requeue p f g s) = requeue p f g (completeQualification l s) := by
  simp [completeQualification, ringTrip, goOffHook, requeue_ite]

@[simp] theorem settleQualification_requeue (l : Line) (s : State) :
    settleQualification l (requeue p f g s) = requeue p f g (settleQualification l s) := by
  simp [settleQualification, requeue_ite]

@[simp] theorem emitDigit_requeue (l : Line) (s : State) :
    emitDigit l (requeue p f g s) = requeue p f g (emitDigit l s) := by simp [emitDigit, requeue_ite]

@[simp] theorem classifyBreak_requeue (l : Line) (r : BreakRecord) (b : Nat) (s : State) :
    classifyBreak l r b (requeue p f g s) = requeue p f g (classifyBreak l r b s) := by
  unfold classifyBreak
  dsimp only
  split <;> simp

@[simp] theorem doHangUp_requeue (l : Line) (n : Nat) (s : State) :
    doHangUp l n (requeue p f g s) = requeue p f g (doHangUp l n s) := by simp [doHangUp]

@[simp] theorem offHookEdge_requeue (l : Line) (s : State) :
    offHookEdge l (requeue p f g s) = requeue p f g (offHookEdge l s) := by
  unfold offHookEdge
  dsimp only
  rw [modSup_requeue, line_requeue]
  split
  · exact modLine_requeue ..
  · simp [returnEdge, requeue_ite]
  · rfl

@[simp] theorem declareFault_requeue (l : Line) (s : State) :
    declareFault l (requeue p f g s) = requeue p f g (declareFault l s) := by
  simp [declareFault, openSeries, ← requeue_ite]

@[simp] theorem changeFeed_requeue (l : Line) (m : FeedMode) (s : State) :
    changeFeed l m (requeue p f g s) = requeue p f g (changeFeed l m s) := by
  simp [changeFeed, removeFeed, applyFeed, requeue_ite]

/-! ### The Media Channel and LINE_RESET (R19, R25, R26, R60) -/

@[simp] theorem closeNow_requeue (l : Line) (s : State) :
    closeNow l (requeue p f g s) = requeue p f g (closeNow l s) := by simp [closeNow]

@[simp] theorem beginPeriod_requeue (l : Line) (s : State) :
    beginPeriod l (requeue p f g s) = requeue p f g (beginPeriod l s) := by
  simp [beginPeriod, ← requeue_ite]

@[simp] theorem resetLine_requeue (b : Bool) (l : Line) (s : State) :
    resetLine b l (requeue p f g s) = requeue p f g (resetLine b l s) := by
  simp [resetLine, endRingCadence, ← requeue_ite]

end Sys2Proof.Machine
end

section
/-! SUPPORT. Commands that do not see the port queues: all but CLAIM, RELEASE, HAND_OVER and DEVICE_RESET. Of these the first three do
not see a FIFO (R9, R181 to R185). -/

namespace Sys2Proof.Machine

open Sys2Proof.Claim

/-! ### Answers -/

/-- An answer's state with the queues of port `p` changed. -/
def Answer.requeue (p : Port) (f : List Command → List Command) (g : List Message → List Message) (a : Answer) : Answer :=
  { a with state := Machine.requeue p f g a.state }

@[simp] theorem accept_requeue (p : Port) (f : List Command → List Command) (g : List Message → List Message) (s : State)
    (data : List Byte) : accept (requeue p f g s) data = (accept s data).requeue p f g := rfl

@[simp] theorem refuse_requeue (p : Port) (f : List Command → List Command) (g : List Message → List Message) (s : State)
    (r : Result) : refuse r (requeue p f g s) = (refuse r s).requeue p f g := rfl

theorem answer_requeue_ite (p : Port) (f : List Command → List Command) (g : List Message → List Message) (c : Prop)
    [Decidable c] (a b : Answer) : (if c then a else b).requeue p f g
      = if c then a.requeue p f g else b.requeue p f g := apply_ite ..

theorem answer_requeue_state (p : Port) (f : List Command → List Command) (g : List Message → List Message) (a : Answer) :
    (a.requeue p f g).state = requeue p f g a.state := rfl

theorem allEntry_requeue (p : Port) (f : List Command → List Command) (g : List Message → List Message) (l : Line)
    (a : Answer) : allEntry l (a.requeue p f g) = allEntry l a := rfl

/-- An execution that does not see the port queues and keeps owners, FIFOs, replies and bounds. -/
structure QueueBlind (act : State → Answer) : Prop where
  requeue : ∀ p f g s, act (requeue p f g s) = (act s).requeue p f g
  calm : ∀ s, Calm s (act s).state

theorem queueBlind_refuse (r : Result) : QueueBlind (refuse r) := ⟨fun _ _ _ _ => rfl, .refl⟩

/-! ### The work on one line -/

theorem queueBlind_eventsOnLine (l : Line) : QueueBlind (eventsOnLine l) where
  requeue p f g s := by simp [eventsOnLine]
  calm s := by
    refine Calm.accepted (calm_modLine ⟨rfl, rfl, fun hs => ⟨?_, hs.2⟩⟩ id) _
    exact Nat.le_trans (by rw [List.length_drop]; exact Nat.sub_le ..) hs.1

theorem queueBlind_resetOnLine (l : Line) : QueueBlind (resetOnLine l) where
  requeue p f g s := by simp [resetOnLine]
  calm s := calm_resetLine true l s

theorem queueBlind_feedOnLine (mode : Byte) (l : Line) : QueueBlind (feedOnLine mode l) where
  requeue p f g s := by
    unfold feedOnLine
    split
    · rfl
    · simp [answer_requeue_ite]
  calm s := by
    unfold feedOnLine
    split
    · exact .refl s
    · split
      · exact .refl s
      · exact calm_changeFeed l _ s

theorem queueBlind_timingOnLine (t : HookTiming) (l : Line) : QueueBlind (timingOnLine t l) where
  requeue p f g s := by simp [timingOnLine, answer_requeue_ite]
  calm s := by
    unfold timingOnLine
    split
    · exact Calm.accepted (calm_modSup s l _) _
    · exact .refl s

theorem queueBlind_ringStartOnLine (step : Byte) (l : Line) : QueueBlind (ringStartOnLine step l) where
  requeue p f g s := by
    unfold ringStartOnLine startRing
    rw [line_requeue, answer_requeue_ite]
    congr 1
    split <;> simp
  calm s := by
    unfold ringStartOnLine
    split
    · exact .refl s
    · split
      · exact (calm_stopRing l s).trans ((calm_wake l _).trans ((calm_startCadence .ring l _ _).trans
          (calm_settleQualification l _)))
      · exact .refl s

theorem queueBlind_ringStopOnLine (l : Line) : QueueBlind (ringStopOnLine l) where
  requeue p f g s := by simp [ringStopOnLine, ← requeue_ite]
  calm s := calm_ite ((calm_stopRing l s).trans (calm_settleQualification l _)) (.refl s)

theorem queueBlind_toneStartOnLine (step : Byte) (l : Line) : QueueBlind (toneStartOnLine step l) where
  requeue p f g s := by
    unfold toneStartOnLine startTone
    rw [line_requeue, answer_requeue_ite]
    congr 1
    split <;> simp
  calm s := by
    unfold toneStartOnLine
    split
    · split
      · exact (calm_stopTone l s).trans (calm_startCadence .tone l _ _)
      · exact .refl s
    · exact .refl s

theorem queueBlind_toneStopOnLine (l : Line) : QueueBlind (toneStopOnLine l) where
  requeue p f g s := by simp [toneStopOnLine]
  calm s := calm_stopTone l s

theorem queueBlind_loadOnLine (r : CallerFields) (l : Line) : QueueBlind (loadOnLine r l) where
  requeue p f g s := by
    unfold loadOnLine
    dsimp only
    rw [line_requeue, answer_requeue_ite]
    congr 1
    split <;> simp
  calm s := by
    unfold loadOnLine
    dsimp only
    split
    · exact .refl s
    · split
      · exact Calm.accepted (calm_modCid s l _) _
      · exact .refl s

theorem queueBlind_openOnLine (ability : Byte) (q : ChannelParams) (l : Line) : QueueBlind (openOnLine ability q l) where
  requeue p f g s := by simp [openOnLine, answer_requeue_ite]
  calm s := by
    unfold openOnLine
    split
    · exact .refl s
    · split
      · exact calm_openChannel q _ l s
      · exact .refl s

theorem queueBlind_closeOnLine (l : Line) : QueueBlind (closeOnLine l) where
  requeue p f g s := by simp [closeOnLine, answer_requeue_ite]
  calm s := calm_closeOnLine l s

theorem queueBlind_drainOnLine (l : Line) : QueueBlind (drainOnLine l) where
  requeue p f g s := by
    unfold drainOnLine
    rw [line_requeue]
    split <;> simp
  calm s := calm_drainOnLine l s

theorem queueBlind_closeByOption (option : Byte) (l : Line) : QueueBlind (closeByOption option l) where
  requeue p f g s := by
    simp [closeByOption, answer_requeue_ite, (queueBlind_closeOnLine l).requeue, (queueBlind_drainOnLine l).requeue]
  calm s := by
    unfold closeByOption
    split
    · exact calm_closeOnLine l s
    · split
      · exact calm_drainOnLine l s
      · split <;> exact .refl s

theorem queueBlind_flushOnLine (l : Line) : QueueBlind (flushOnLine l) where
  requeue p f g s := by simp [flushOnLine, answer_requeue_ite]
  calm s := by
    unfold flushOnLine
    split
    · exact .refl s
    next h => exact calm_flush (by simpa [notOpen] using h)

theorem queueBlind_abilityOnLine (ability : Byte) (l : Line) : QueueBlind (abilityOnLine ability l) where
  requeue p f g s := by simp [abilityOnLine, answer_requeue_ite]
  calm s := by
    unfold abilityOnLine
    dsimp only
    split
    · exact .refl s
    · split
      · exact .refl s
      · split
        · exact Calm.accepted (calm_modChan s l _) _
        · exact .refl s

theorem queueBlind_classOnLine (mediaClass : Byte) (l : Line) : QueueBlind (classOnLine mediaClass l) where
  requeue p f g s := by
    unfold classOnLine
    rw [line_requeue, answer_requeue_ite]
    congr 1
    split <;> simp
  calm s := by
    unfold classOnLine
    split
    · exact .refl s
    · split
      · exact (calm_modChan s l _).trans (calm_restartAgreement l _)
      · exact .refl s

theorem queueBlind_restartOnLine (l : Line) : QueueBlind (restartOnLine l) where
  requeue p f g s := by simp [restartOnLine, answer_requeue_ite]
  calm s := by
    unfold restartOnLine
    split
    · exact .refl s
    · exact calm_restartAgreement l s

/-! ### Whole commands -/

theorem owns_requeue (p : Port) (f : List Command → List Command) (g : List Message → List Message) (s : State) (q : Port)
    (l : Line) : owns (requeue p f g s) q l = owns s q l := by simp [owns]

/-- A command that needs ownership commutes with a change of a port's queues where its work on one line does. -/
theorem ownerCommand_requeue {p : Port} {f : List Command → List Command} {g : List Message → List Message}
    {w : Line → State → Answer} (hw : ∀ l s, w l (requeue p f g s) = (w l s).requeue p f g) (q : Port) (field : Byte)
    (s : State) : ownerCommand q field w (requeue p f g s) = (ownerCommand q field w s).requeue p f g := by
  unfold ownerCommand
  simp only [owns_requeue, hw, answer_requeue_state, allEntry_requeue, accept_requeue, refuse_requeue]
  cases lineOf field with
  | some l => exact (answer_requeue_ite ..).symm
  | none =>
    simp only [answer_requeue_ite]
    cases owns s q .one <;> cases owns s q .two <;> rfl

theorem queueBlind_ownerCommand {w : Line → State → Answer} (hw : ∀ l, QueueBlind (w l)) (q : Port) (field : Byte) :
    QueueBlind (ownerCommand q field w) where
  requeue p f g s := ownerCommand_requeue (fun l => (hw l).requeue p f g) q field s
  calm s := by
    unfold ownerCommand
    split
    · split
      · exact (hw _).calm s
      · exact .refl s
    · split
      · split
        · exact .refl s
        · exact (hw .one).calm s
        · exact (hw .two).calm s
        · exact ((hw .one).calm s).trans ((hw .two).calm _)
      · exact .refl s

theorem queueBlind_doReadLine (line : Byte) : QueueBlind (doReadLine line) where
  requeue p f g s := by
    have hrecord (l : Line) : lineRecord l (requeue p f g s) = lineRecord l s := by
      simp [lineRecord, ownerBytes, ringStatus]
    unfold doReadLine reportCommand
    simp only [hrecord, accept_requeue, refuse_requeue]
    split
    · rfl
    · exact (answer_requeue_ite ..).symm
  calm s := by
    unfold doReadLine reportCommand
    split
    · exact .refl s
    · split <;> exact .refl s

theorem queueBlind_doReadCounters (line clear : Byte) : QueueBlind (doReadCounters line clear) where
  requeue p f g s := by
    have hblock (l : Line) : countersBlock l (requeue p f g s) = countersBlock l s := by simp [countersBlock]
    have hclear (l : Line) (t : State) : clearCounters clear l (requeue p f g t) = requeue p f g (clearCounters clear l t) := by
      simp [clearCounters, requeue_ite]
    unfold doReadCounters reportCommand
    simp only [hblock, hclear, accept_requeue, refuse_requeue]
    split
    · rfl
    · exact (answer_requeue_ite ..).symm
  calm s := by
    unfold doReadCounters reportCommand
    split
    · exact calm_clearCounters clear _ s
    · split
      · exact (calm_clearCounters clear _ s).trans (calm_clearCounters clear _ _)
      · exact .refl s

theorem queueBlind_doLoadCallerIdBytes (q : Port) (c : Command) : QueueBlind (doLoadCallerIdBytes q c) := by
  unfold doLoadCallerIdBytes doLoadCallerId
  split
  · exact queueBlind_refuse _
  · split
    · split
      · exact queueBlind_refuse _
      · exact queueBlind_ownerCommand (queueBlind_loadOnLine _) q c.line
    · exact queueBlind_refuse _

/-! ### The shared table and the port's own commands -/

/-- What a command reads of its port does not depend on the queues. -/
theorem port_requeue_kept (p : Port) (f : List Command → List Command) (g : List Message → List Message) (s : State)
    (q : Port) : ((requeue p f g s).port q).pointer = (s.port q).pointer ∧ ((requeue p f g s).port q).hold = (s.port q).hold
      ∧ noticesBytes ((requeue p f g s).port q) = noticesBytes (s.port q) := by
  cases p <;> cases q <;> exact ⟨rfl, rfl, rfl⟩

/-- A change of a port beside its queues commutes with a change of the queues. -/
theorem modPort_requeue {p : Port} {f : List Command → List Command} {g : List Message → List Message}
    {k : PortLink → PortLink} (hk : ∀ q, k { q with fifo := f q.fifo, outbound := g q.outbound }
      = { k q with fifo := f (k q).fifo, outbound := g (k q).outbound }) (s : State) (q : Port) :
    (requeue p f g s).modPort q k = requeue p f g (s.modPort q k) := by
  cases p <;> cases q <;> simp [requeue, State.modPort, hk]

theorem queueBlind_doReadNotices (q : Port) : QueueBlind (doReadNotices q) where
  requeue p f g s := by
    rw [doReadNotices, (port_requeue_kept p f g s q).2.2, modPort_requeue fun _ => rfl]
    rfl
  calm s := calm_doReadNotices q s

theorem queueBlind_doSetNoticeMask (q : Port) (mask : Word) : QueueBlind (doSetNoticeMask q mask) where
  requeue p f g s := by
    rw [doSetNoticeMask, modPort_requeue fun _ => rfl]
    rfl
  calm s := calm_doSetNoticeMask q mask s

theorem queueBlind_doTablePointer (q : Port) (index : Byte) : QueueBlind (doTablePointer q index) where
  requeue p f g s := by
    unfold doTablePointer
    split
    · rw [modPort_requeue fun _ => rfl]
      rfl
    · rfl
  calm s := calm_doTablePointer q index s

theorem entryBytes_requeue (p : Port) (f : List Command → List Command) (g : List Message → List Message) (s : State)
    (i : Fin 80) : entryBytes (requeue p f g s) i = entryBytes s i := by
  simp only [entryBytes, requeue_steps, requeue_pairs]

theorem writeEntry_requeue (p : Port) (f : List Command → List Command) (g : List Message → List Message) (s : State)
    (i : Fin 80) (e0 e1 e2 e3 e4 e5 : Byte) : writeEntry i e0 e1 e2 e3 e4 e5 (requeue p f g s)
      = (writeEntry i e0 e1 e2 e3 e4 e5 s).map (requeue p f g) := by
  unfold writeEntry
  split
  · rw [Option.map_map]
    cases p <;> rfl
  · cases p <;> rfl

theorem queueBlind_doTableWrite (q : Port) (e0 e1 e2 e3 e4 e5 : Byte) :
    QueueBlind (doTableWrite q e0 e1 e2 e3 e4 e5) where
  requeue p f g s := by
    unfold doTableWrite
    dsimp only
    rw [(port_requeue_kept p f g s q).1, writeEntry_requeue]
    cases writeEntry (s.port q).pointer e0 e1 e2 e3 e4 e5 s with
    | some t =>
      simp only [Option.map_some, entryBytes_requeue]
      rw [modPort_requeue fun _ => rfl]
      rfl
    | none => rfl
  calm s := calm_doTableWrite q e0 e1 e2 e3 e4 e5 s

theorem queueBlind_doTableRead (q : Port) : QueueBlind (doTableRead q) where
  requeue p f g s := by
    obtain ⟨hpointer, hhold, -⟩ := port_requeue_kept p f g s q
    rw [doTableRead, hpointer, hhold, entryBytes_requeue, modPort_requeue fun _ => rfl, ← requeue_ite]
    rfl
  calm s := calm_doTableRead q s

theorem queueBlind_doTableHold (q : Port) : QueueBlind (doTableHold q) where
  requeue p f g s := by
    obtain ⟨hpointer, hhold, -⟩ := port_requeue_kept p f g s q
    rw [doTableHold, hpointer, hhold, modPort_requeue fun _ => rfl, doTableHold, answer_requeue_ite]
    rfl
  calm s := calm_doTableHold q s

theorem queueBlind_doTableEnd (q : Port) : QueueBlind (doTableEnd q) where
  requeue p f g s := by
    rw [doTableEnd, (port_requeue_kept p f g s q).2.1, doTableEnd]
    split
    · rw [modPort_requeue fun _ => rfl]
      rfl
    · rfl
  calm s := calm_doTableEnd q s

/-- A command that changes owners: CLAIM, RELEASE, HAND_OVER and DEVICE_RESET. -/
def changesOwners : CommandCode → Bool
  | .claim => true
  | .release => true
  | .handOver => true
  | .deviceReset => true
  | _ => false

/-- The execution of every command that changes no owner. -/
theorem queueBlind_run {k : CommandCode} (hk : changesOwners k = false) (q : Port) (c : Command) :
    QueueBlind (run k q c) := by
  cases k with
  | nop => exact ⟨fun _ _ _ _ => rfl, .refl⟩
  | readNotices => exact queueBlind_doReadNotices q
  | setNoticeMask => exact queueBlind_doSetNoticeMask q _
  | claim => cases hk
  | release => cases hk
  | handOver => cases hk
  | readLine => exact queueBlind_doReadLine _
  | readEvents => exact queueBlind_ownerCommand queueBlind_eventsOnLine q _
  | lineReset => exact queueBlind_ownerCommand queueBlind_resetOnLine q _
  | deviceReset => cases hk
  | setFeed => exact queueBlind_ownerCommand (queueBlind_feedOnLine _) q _
  | setHookTiming => exact queueBlind_ownerCommand (queueBlind_timingOnLine _) q _
  | ringStart => exact queueBlind_ownerCommand (queueBlind_ringStartOnLine _) q _
  | ringStop => exact queueBlind_ownerCommand queueBlind_ringStopOnLine q _
  | toneStart => exact queueBlind_ownerCommand (queueBlind_toneStartOnLine _) q _
  | toneStop => exact queueBlind_ownerCommand queueBlind_toneStopOnLine q _
  | loadCallerId => exact queueBlind_doLoadCallerIdBytes q c
  | channelOpen => exact queueBlind_ownerCommand (queueBlind_openOnLine _ _) q _
  | channelClose => exact queueBlind_ownerCommand (queueBlind_closeByOption _) q _
  | channelFlush => exact queueBlind_ownerCommand queueBlind_flushOnLine q _
  | setAbility => exact queueBlind_ownerCommand (queueBlind_abilityOnLine _) q _
  | setClass => exact queueBlind_ownerCommand (queueBlind_classOnLine _) q _
  | agreementRestart => exact queueBlind_ownerCommand queueBlind_restartOnLine q _
  | readCounters => exact queueBlind_doReadCounters _ _
  | tablePointer => exact queueBlind_doTablePointer q _
  | tableWrite => exact queueBlind_doTableWrite q _ _ _ _ _ _
  | tableRead => exact queueBlind_doTableRead q
  | tableHold => exact queueBlind_doTableHold q
  | tableEnd => exact queueBlind_doTableEnd q

/-! ### Commands that change owners do not see a FIFO (R9, R182) -/

theorem changeOwner_requeue (p : Port) (f : List Command → List Command) (l : Line) (new : Option Port) (s : State) :
    changeOwner l new (requeue p f id s) = requeue p f id (changeOwner l new s) := by
  have hleave (o : Option Port) (t : State) : leavePort l o (requeue p f id t) = requeue p f id (leavePort l o t) := by
    cases o with
    | none => rfl
    | some q => cases p <;> cases q <;> cases l <;> rfl
  have hchannel (t : State) : channelAtChange l (requeue p f id t) = requeue p f id (channelAtChange l t) := by
    simp [channelAtChange, requeue_ite]
  have hnotice (t : State) : noticeQueued l (requeue p f id t) = requeue p f id (noticeQueued l t) := by
    simp [noticeQueued, requeue_ite]
  simp only [changeOwner, line_requeue, modLine_requeue, hleave, hchannel, hnotice]

theorem ownerBytes_requeue (p : Port) (f : List Command → List Command) (g : List Message → List Message) (l : Line)
    (s : State) : ownerBytes l (requeue p f g s) = ownerBytes l s := by simp [ownerBytes]

theorem doClaim_requeue (p : Port) (f : List Command → List Command) (q : Port) (line owner : Byte) (gen : Word)
    (s : State) : doClaim q line owner gen (requeue p f id s) = (doClaim q line owner gen s).requeue p f id := by
  unfold doClaim
  split
  next l o _ _ =>
    unfold claimLine
    simp only [line_requeue, changeOwner_requeue, ← requeue_ite, ownerBytes_requeue, accept_requeue, answer_requeue_ite]
    rfl
  next => rfl
  next => rfl

/-- The execution of every command but DEVICE_RESET leaves a FIFO out of account. -/
theorem run_requeue {k : CommandCode} (hk : k ≠ .deviceReset) (p : Port) (f : List Command → List Command) (q : Port)
    (c : Command) (s : State) : run k q c (requeue p f id s) = (run k q c s).requeue p f id := by
  by_cases hc : changesOwners k = false
  · exact (queueBlind_run hc q c).requeue p f id s
  cases k with
  | claim => exact doClaim_requeue ..
  | release => exact ownerCommand_requeue (fun l t => by simp [releaseOnLine, changeOwner_requeue]) q c.line s
  | handOver =>
    exact ownerCommand_requeue (fun l t => by simp [handOverOnLine, changeOwner_requeue, ownerBytes_requeue]) q c.line s
  | deviceReset => exact absurd rfl hk
  | _ => exact absurd rfl hc

end Sys2Proof.Machine
end

section
/-! SUPPORT. Settled: a message sent to its last byte leaves the queue, and a freed reply place lets the next command execute (R179,
R182). -/

namespace Sys2Proof.Machine

open Sys2Proof.Claim

/-! ### The execution of a waiting command -/

/-- Only DEVICE_RESET sees a FIFO. -/
theorem perform_requeue {c : Command} (hc : c.code ≠ 0x16) (p : Port) (f : List Command → List Command) (q : Port)
    (s : State) : perform q c (requeue p f id s) = (perform q c s).requeue p f id := by
  unfold perform
  cases hk : commandOf c.code with
  | none => rfl
  | some k =>
    have hcode : codeByte k = c.code := eq_of_beq (List.find?_some (p := fun k => codeByte k == c.code) hk)
    have hne : k ≠ .deviceReset := by rintro rfl; exact hc hcode.symm
    simp only [run_requeue hne, refuse_requeue, answer_requeue_ite]

theorem answerReply_requeue (p : Port) (f : List Command → List Command) (c : Command) (a : Answer) :
    answerReply p c (a.requeue p f id) = requeue p f id (answerReply p c a) := by
  cases p <;> rfl

/-- Where the FIFO is empty, a command executes in front of those that wait as it does alone. -/
theorem perform_requeue_of_empty {p : Port} {c : Command} {rest : List Command} {s : State}
    (hr : c.code = 0x16 → rest = []) (hf : (s.port p).fifo = []) :
    answerReply p c (perform p c (requeue p (fun _ => rest) id s))
      = requeue p (fun _ => rest) id (answerReply p c (perform p c s)) := by
  by_cases hc : c.code = 0x16
  · have hself {t : State} (ht : (t.port p).fifo = []) : requeue p (fun _ => rest) id t = t := by
      rw [hr hc, ← ht]
      cases p <;> rfl
    have hdone : ((perform p c s).state.port p).fifo = [] := by
      obtain ⟨hkept, -⟩ | hempty := (executed_perform p c s).ports p
      · rw [hkept, hf]
      · exact hempty
    rw [hself hf, hself (by rw [fifo_answerReply, hdone])]
  · rw [perform_requeue hc]
    exact answerReply_requeue ..

/-- With seven replies queued one waiting command executes, and no other after it. -/
theorem drainFifo_first {p : Port} {c : Command} {rest : List Command} {s : State} (hf : (s.port p).fifo = c :: rest)
    (h7 : replyCount (s.port p) = 7) (n : Nat) : drainFifo p (n + 1) s
      = answerReply p c (perform p c (s.modPort p fun q => { q with fifo := rest })) := by
  have hroom : replyCount (s.port p) < Config.replyPlaces := by rw [h7]; decide
  rw [drainFifo, hf]
  dsimp only
  rw [if_pos hroom]
  refine drainFifo_waits p n ?_
  rw [replyCount_answerReply, fifo_answerReply]
  obtain ⟨-, hreplies⟩ | hempty := (executed_perform p c (s.modPort p fun q => { q with fifo := rest })).ports p
  · rw [port_modPort_same] at hreplies
    exact .inl (by rw [hreplies, show replyCount { s.port p with fifo := rest } = 7 from h7])
  · exact .inr hempty

/-! ### MESSAGE_SENT -/

/-- With no command waiting only the message under way and the look at the queue count. -/
theorem exec_messageSent_idle {p : Port} {s : State} (ht : (s.port p).transaction = .read) (hf : (s.port p).fifo = []) :
    exec (.messageSent p) s = .next (s.modPort p fun q => lookAtQueue (afterMessage q)) := by
  have hidle : drainFifo p Config.fifoSize (s.modPort p afterMessage) = s.modPort p afterMessage :=
    drainFifo_waits p _ (.inr (by rw [port_modPort_same]; exact hf))
  rw [exec_messageSent, if_pos ht, hidle, modPort_comp]

theorem afterMessage_head {q : PortLink} (h : q.sending = .head) :
    afterMessage q = { q with sending := .nothing, outbound := q.outbound.drop 1 } := by
  rw [afterMessage, if_pos h]

theorem afterMessage_other {q : PortLink} (h : q.sending ≠ .head) : afterMessage q = { q with sending := .nothing } := by
  rw [afterMessage, if_neg h]

/-- Settles O12: behind the head that leaves, the waiting command executes as its row does with no command waiting. -/
theorem messageSentLeavesQueue : Obligations.MessageSentLeavesQueue := by
  intro p s ht
  refine ⟨fun hf hs => ?_, fun hf hs => ?_, fun r ms c code tag line args rest hs ho h8 hw hc hf hreset => ?_⟩
  · rw [exec_messageSent_idle ht hf]
    exact congrArg _ (modPort_congr (by rw [afterMessage_head hs, lookAtQueue_eq]))
  · rw [exec_messageSent_idle ht hf]
    exact congrArg _ (modPort_congr (by rw [afterMessage_other hs, lookAtQueue_eq]))
  have hms : ms.countP Message.isReply = 7 := by
    rw [replyCount, ho, List.countP_cons_of_pos rfl] at h8
    omega
  generalize hs₀ : (s.modPort p fun q => { q with fifo := [], outbound := ms, sending := .nothing }) = s₀
  have hf₀ : (s₀.port p).fifo = [] := by rw [← hs₀, port_modPort_same]
  have hr₀ : replyCount (s₀.port p) = 7 := by rw [← hs₀, port_modPort_same]; exact hms
  refine ⟨answerReply p (waiting code tag line args) (perform p (waiting code tag line args) s₀), ?_, ?_⟩
  · rw [issuesAs_perform_of_wellFormed hw hc s₀, issue_at_once p _ _ s₀ hf₀ (by rw [hr₀]; decide)]
    rfl
  · have hleft : (s.modPort p afterMessage).port p = { s.port p with sending := .nothing, outbound := ms } := by
      rw [port_modPort_same, afterMessage_head hs, ho]
      rfl
    have hfront : (s.modPort p afterMessage).modPort p (fun q => { q with fifo := rest })
        = requeue p (fun _ => rest) id s₀ := by
      rw [← hs₀, requeue, modPort_comp, modPort_comp]
      exact modPort_congr (by rw [afterMessage_head hs, ho]; rfl)
    have hdrain := drainFifo_first (s := s.modPort p afterMessage) (n := 3) (by rw [hleft]; exact hf)
      (by rw [hleft]; exact hms)
    rw [exec_messageSent, if_pos ht, show Config.fifoSize = 3 + 1 from rfl, hdrain, hfront,
      perform_requeue_of_empty hreset hf₀, requeue, modPort_comp]
    simp only [lookAtQueue_eq, id]

end Sys2Proof.Machine
end

section
/-! SUPPORT. Sound port queues (R9, R29, R181 to R184): what the execution of a command, a message sent and an uplink frame leave
of them. -/

namespace Sys2Proof.Machine

open Sys2Proof.Claim Sys2Proof.Safety

/-! ### Messages that leave -/

/-- Every queued media frame belongs to a line that the port owns. -/
def MediaOwned (s : State) : Prop := ∀ p f, Message.media f ∈ (s.port p).outbound → (s.line f.line).owner = some p

/-- From `s` to `u` messages only leave the outbound queues, and the frames that stay are their owners'. -/
structure Purges (s u : State) : Prop where
  outbound : ∀ p, (u.port p).outbound.Sublist (s.port p).outbound
  owned : MediaOwned s → MediaOwned u

theorem Purges.refl (s : State) : Purges s s := ⟨fun _ => .refl _, id⟩

theorem Purges.trans {s t u : State} (h : Purges s t) (k : Purges t u) : Purges s u :=
  ⟨fun p => (k.outbound p).trans (h.outbound p), k.owned ∘ h.owned⟩

/-- Where owners stay, whatever leaves the queues may. -/
theorem purges_of_owners {s u : State} (hl : ∀ l, (u.line l).owner = (s.line l).owner)
    (ho : ∀ p, (u.port p).outbound.Sublist (s.port p).outbound) : Purges s u :=
  ⟨ho, fun hs p f hf => (hl _).trans (hs p f ((ho p).subset hf))⟩

theorem Calm.purges {s u : State} (h : Calm s u) (ho : ∀ p, (u.port p).outbound = (s.port p).outbound) : Purges s u :=
  purges_of_owners (fun l => (h.lines l).owner) fun p => by rw [ho p]

theorem QueueBlind.purges {act : State → Answer} (h : QueueBlind act) (s : State) : Purges s (act s).state :=
  (h.calm s).purges fun p => (port_queues_of_requeue (w := fun t => (act t).state) (p := p)
    (fun f g t => congrArg Answer.state (h.requeue p f g t)) s).2

/-- With its owner a line's frames leave the queue (R9). -/
theorem purges_changeOwner (l : Line) (new : Option Port) (s : State) : Purges s (changeOwner l new s) := by
  have hport (p : Port) : ((changeOwner l new s).port p).outbound = if (s.line l).owner = some p
      then (s.port p).outbound.filter (fun m => !m.isMediaOf l) else (s.port p).outbound := by
    rw [((lineWork_changeOwner l new s).ports p).2.1, leftState]
    split
    next h => rw [h, port_leavePort_previous, port_modLine]; rfl
    next h => rw [port_leavePort_other h, port_modLine]
  refine ⟨fun p => ?_, fun hs p f hf => ?_⟩
  · rw [hport]
    split
    · exact List.filter_sublist
    · exact .refl _
  · rw [hport] at hf
    by_cases hl : f.line = l
    · split at hf
      next => simp [Message.isMediaOf, hl] at hf
      next h => exact absurd (hl ▸ hs p f hf) h
    · have hf' : Message.media f ∈ (s.port p).outbound := by
        split at hf
        · exact List.mem_of_mem_filter hf
        · exact hf
      rw [((calm_changeOwner l new s).lines f.line).owner, line_modLine_other _ _ _ _ hl]
      exact hs p f hf'

theorem purges_latch (p : Port) (n : Notice) (s : State) : Purges s (latch p n s) :=
  (calm_latch p n s).purges fun q => ((lineWork_latch .one p n s).ports q).2.1

theorem purges_resetDevice (p : Port) (s : State) : Purges s (resetDevice p s) := by
  have hempty (q : Port) : ((resetDevice p s).port q).outbound = [] := by rw [port_resetDevice]; rfl
  exact ⟨fun q => by rw [hempty]; exact List.nil_sublist _, fun _ q f hf => by rw [hempty] at hf; cases hf⟩

/-! ### The execution of a command -/

theorem purges_ownerCommand {w : Line → State → Answer} (hw : ∀ l s, Purges s (w l s).state) (p : Port) (field : Byte)
    (s : State) : Purges s (ownerCommand p field w s).state := by
  unfold ownerCommand
  split
  · split
    · exact hw _ s
    · exact .refl s
  · split
    · split
      · exact .refl s
      · exact hw .one s
      · exact hw .two s
      · exact (hw .one s).trans (hw .two _)
    · exact .refl s

theorem purges_doClaim (p : Port) (line owner : Byte) (g : Word) (s : State) :
    Purges s (doClaim p line owner g s).state := by
  unfold doClaim claimLine
  split
  · split
    · dsimp only [accept]
      split
      · exact .refl s
      · exact purges_changeOwner ..
    · exact .refl s
  · exact .refl s
  · exact .refl s

theorem purges_run (k : CommandCode) (p : Port) (c : Command) (s : State) : Purges s (run k p c s).state := by
  by_cases hk : changesOwners k = false
  · exact (queueBlind_run hk p c).purges s
  cases k with
  | claim => exact purges_doClaim ..
  | release => exact purges_ownerCommand (fun l t => purges_changeOwner l none t) p c.line s
  | handOver =>
    exact purges_ownerCommand (fun l t => (purges_changeOwner l (some (otherPort p)) t).trans (purges_latch ..)) p c.line s
  | deviceReset =>
    show Purges s (doDeviceReset p s).state
    unfold doDeviceReset
    split
    · exact .refl s
    · exact purges_resetDevice p s
  | _ => exact absurd rfl hk

theorem purges_perform (p : Port) (c : Command) (s : State) : Purges s (perform p c s).state := by
  unfold perform
  split
  · split
    · exact purges_run ..
    · exact .refl s
  · exact .refl s

/-! ### Sound queues -/

/-- All that `QueuesSound` says but that commands wait only behind 8 replies. -/
structure QueuesFit (s : State) : Prop where
  bounded : ∀ p, PortBounded (s.port p)
  owned : MediaOwned s

theorem queuesSound_iff (s : State) : QueuesSound s ↔ QueuesFit s ∧ ∀ p, FifoWaits (s.port p) :=
  ⟨fun h => ⟨⟨fun p => (h p).1, fun p => (h p).2.2⟩, fun p => (h p).2.1⟩,
    fun ⟨hfit, hw⟩ p => ⟨hfit.bounded p, hw p, hfit.owned p⟩⟩

/-- The bounds hold on where messages only leave and no FIFO grows. -/
theorem QueuesFit.purged {s u : State} (h : QueuesFit s) (hp : Purges s u)
    (hf : ∀ p, (u.port p).fifo.length ≤ (s.port p).fifo.length) : QueuesFit u where
  bounded p := by
    obtain ⟨hreplies, hmedia, hfifo⟩ := h.bounded p
    exact ⟨((hp.outbound p).countP_le).trans hreplies, ((hp.outbound p).countP_le).trans hmedia, (hf p).trans hfifo⟩
  owned := hp.owned h.owned

theorem PortDrains.fifo_le {q r : PortLink} (h : PortDrains q r) : r.fifo.length ≤ q.fifo.length := by
  obtain ⟨hf, -⟩ | hf := h
  · rw [hf]
  · rw [hf]; exact Nat.zero_le _

theorem PortDrains.fifoWaits {q r : PortLink} (h : PortDrains q r) (hq : FifoWaits q) : FifoWaits r := by
  obtain ⟨hf, hr⟩ | hf := h
  · rw [FifoWaits, hf, hr]; exact hq
  · exact fun hne => absurd hf hne

/-- A command executes with a free reply place, the only one where others wait behind it, and is answered. -/
theorem queuesSound_answerReply {p : Port} {c : Command} {a : Answer} {s : State} (hfit : QueuesFit s)
    (hw : ∀ q, q ≠ p → FifoWaits (s.port q)) (hroom : replyCount (s.port p) < 8)
    (hlast : (s.port p).fifo ≠ [] → replyCount (s.port p) = 7) (hx : Executed s a.state) (hp : Purges s a.state) :
    QueuesSound (answerReply p c a) := by
  have hdone := hfit.purged hp fun q => (hx.ports q).fifo_le
  have hother {q : Port} (hq : q ≠ p) : (answerReply p c a).port q = a.state.port q := by
    rw [answerReply, port_enqueueMessage, if_neg hq]
  have hself : (answerReply p c a).port p = { a.state.port p with outbound := (a.state.port p).outbound ++
      [.reply { tag := c.tag, code := c.code, result := a.result, data := a.data }] } := by
    rw [answerReply, port_enqueueMessage, if_pos rfl]
  have hreplies := replyCount_answerReply p c a
  intro q
  by_cases hq : q = p
  · subst hq
    obtain ⟨-, hmedia, hfifo⟩ := hdone.bounded q
    have hle : replyCount (a.state.port q) ≤ replyCount (s.port q) := (hp.outbound q).countP_le
    refine ⟨⟨?_, ?_, ?_⟩, fun hne => ?_, fun f hf => ?_⟩
    · rw [hreplies]
      exact Nat.le_trans (Nat.succ_le_succ hle) hroom
    · rw [hself]
      simpa [mediaCount, Message.isMedia] using hmedia
    · rw [fifo_answerReply]
      exact hfifo
    · rw [fifo_answerReply] at hne
      obtain ⟨hkept, hsame⟩ | hempty := hx.ports q
      · rw [hreplies, hsame, hlast (hkept ▸ hne)]
        rfl
      · exact absurd hempty hne
    · rw [hself] at hf
      rw [line_answerReply]
      exact hdone.owned q f (by simpa using hf)
  · rw [hother hq]
    exact ⟨hdone.bounded q, (hx.ports q).fifoWaits (hw q hq), fun f hf => by
      rw [line_answerReply]; exact hdone.owned q f hf⟩

/-- Calm work after which messages have only left keeps the queues sound. -/
theorem queuesSound_purged {s u : State} (h : QueuesSound s) (hc : Calm s u) (hp : Purges s u) : QueuesSound u := by
  obtain ⟨hfit, hw⟩ := (queuesSound_iff s).mp h
  exact (queuesSound_iff u).mpr ⟨hfit.purged hp fun p => by rw [(hc.ports p).1],
    fun p => PortDrains.fifoWaits (.inl (hc.ports p)) (hw p)⟩

/-- Soundness is of owners, FIFOs and outbound queues alone. -/
theorem queuesSound_calm {s u : State} (h : QueuesSound s) (hc : Calm s u)
    (ho : ∀ p, (u.port p).outbound = (s.port p).outbound) : QueuesSound u :=
  queuesSound_purged h hc (hc.purges ho)

/-- Work that commutes with every change of a port's queues keeps them sound. -/
theorem queuesSound_work {w : State → State} {s : State} (h : QueuesSound s) (hc : Calm s (w s))
    (hw : ∀ p f g t, w (requeue p f g t) = requeue p f g (w t)) : QueuesSound (w s) :=
  queuesSound_calm h hc fun p => (port_queues_of_requeue (hw p) s).2

theorem queuesSound_ite {c : Prop} [Decidable c] {s u : State} (hs : QueuesSound s) (hu : QueuesSound u) :
    QueuesSound (if c then u else s) := by
  split
  · exact hu
  · exact hs

/-- A change of a port beside its queues. -/
theorem queuesSound_modPort {s : State} (h : QueuesSound s) (p : Port) {k : PortLink → PortLink}
    (hf : (k (s.port p)).fifo = (s.port p).fifo) (ho : (k (s.port p)).outbound = (s.port p).outbound) :
    QueuesSound (s.modPort p k) := by
  refine queuesSound_calm h (calm_modPort ⟨hf, by rw [replyCount, ho]; rfl⟩) fun q => ?_
  rw [port_modPort]
  split
  next hq => rw [hq]; exact ho
  next => rfl

theorem queuesSound_latch {s : State} (h : QueuesSound s) (p : Port) (n : Notice) : QueuesSound (latch p n s) :=
  queuesSound_modPort h p rfl rfl

/-! ### The command rows -/

theorem replyCount_of_waits {s : State} {p : Port} (h : QueuesSound s) (hnot : executesAtOnce s p = false) :
    replyCount (s.port p) = 8 := by
  obtain ⟨⟨hreplies, -, -⟩, hwaits, -⟩ := h p
  by_cases hf : (s.port p).fifo = []
  · simp only [executesAtOnce, hf, List.isEmpty_nil, Bool.true_and, decide_eq_false_iff_not] at hnot
    exact Nat.le_antisymm hreplies (Nat.le_of_not_lt hnot)
  · exact hwaits hf

/-- A command that may not execute waits or is lost (R181). -/
theorem queuesSound_enqueueCommand {p : Port} {s : State} (h : QueuesSound s) (c : Command)
    (hnot : executesAtOnce s p = false) : QueuesSound (enqueueCommand p c s) := by
  unfold enqueueCommand
  split
  next hlt =>
    intro q
    rw [port_modPort]
    split
    next hq =>
      subst hq
      obtain ⟨⟨hreplies, hmedia, -⟩, -, howned⟩ := h q
      refine ⟨⟨hreplies, hmedia, ?_⟩, fun _ => replyCount_of_waits h hnot, fun f hf => ?_⟩
      · rw [List.length_append]
        exact hlt
      · rw [line_modPort]
        exact howned f hf
    next => exact ⟨(h q).1, (h q).2.1, fun f hf => by rw [line_modPort]; exact (h q).2.2 f hf⟩
  next => exact queuesSound_latch (queuesSound_modPort h p rfl rfl) p _

/-- A command taken executes, waits or is lost (R181, R182). -/
theorem queuesSound_issue {p : Port} {c : Command} {act : State → Answer} {s : State} (h : QueuesSound s)
    (hx : Executed s (act s).state) (hp : Purges s (act s).state) : QueuesSound (issue p c act s) := by
  unfold issue
  split
  next hfree =>
    obtain ⟨hempty, hroom⟩ := Bool.and_eq_true_iff.mp hfree
    obtain ⟨hfit, hw⟩ := (queuesSound_iff s).mp h
    exact queuesSound_answerReply hfit (fun q _ => hw q) (of_decide_eq_true hroom)
      (fun hne => absurd (List.isEmpty_iff.mp hempty) hne) hx hp
  next hnot => exact queuesSound_enqueueCommand h c (Bool.eq_false_iff.mpr hnot)

theorem queuesSound_commandRow {c : Instr} {p : Port} {body : List Byte} {s t : State} (h : QueuesSound s)
    (hc : commandMessage c = some (p, body)) (he : exec c s = .next t) : QueuesSound t := by
  obtain ⟨code, tag, line, args, rfl⟩ := commandMessage_body hc
  by_cases hu : c = .unknownCommand p code tag line args
  · subst hu
    cases he
    exact queuesSound_issue h (Calm.refl s).executed (Purges.refl s)
  · rw [issuesAs_perform hc hu s] at he
    cases he
    exact queuesSound_issue h (executed_perform p _ s) (purges_perform p _ s)

/-! ### MESSAGE_SENT -/

theorem queuesFit_afterMessage {s : State} (h : QueuesSound s) (p : Port) : QueuesFit (s.modPort p afterMessage) := by
  refine ((queuesSound_iff s).mp h).1.purged (purges_of_owners (fun l => by rw [line_modPort]) fun q => ?_) fun q => ?_
  · rw [port_modPort]
    split
    next hq =>
      subst hq
      unfold afterMessage
      dsimp only
      split
      · exact List.drop_sublist ..
      · exact .refl _
    next => exact .refl _
  · rw [port_modPort]
    split
    next hq => rw [hq]; exact Nat.le_refl _
    next => exact Nat.le_refl _

/-- The command at the head of the FIFO takes the reply place that is free. -/
theorem queuesSound_firstWaiting {p : Port} {c : Command} {rest : List Command} {s : State} (hfit : QueuesFit s)
    (hw : ∀ q, q ≠ p → FifoWaits (s.port q)) (hf : (s.port p).fifo = c :: rest) (h7 : replyCount (s.port p) = 7) :
    QueuesSound (answerReply p c (perform p c (s.modPort p fun q => { q with fifo := rest }))) := by
  generalize hu : (s.modPort p fun q => { q with fifo := rest }) = u
  have hself : u.port p = { s.port p with fifo := rest } := by rw [← hu, port_modPort_same]
  have hother {q : Port} (hq : q ≠ p) : u.port q = s.port q := by rw [← hu, port_modPort, if_neg hq]
  have hline (l : Line) : u.line l = s.line l := by rw [← hu, line_modPort]
  have hone : replyCount (u.port p) = 7 := by rw [hself]; exact h7
  have hqueues (q : Port) : (u.port q).outbound = (s.port q).outbound
      ∧ (u.port q).fifo.length ≤ (s.port q).fifo.length := by
    by_cases hq : q = p
    · subst hq
      rw [hself, hf]
      exact ⟨rfl, Nat.le_succ _⟩
    · rw [hother hq]
      exact ⟨rfl, Nat.le_refl _⟩
  have hpurges : Purges s u := purges_of_owners (fun l => by rw [hline]) fun q => by rw [(hqueues q).1]
  exact queuesSound_answerReply (hfit.purged hpurges fun q => (hqueues q).2)
    (fun q hq => by rw [hother hq]; exact hw q hq) (by omega) (fun _ => hone) (executed_perform p c u)
    (purges_perform p c u)

/-- The head that leaves lets at most one waiting command execute; the others wait behind its reply (R182). -/
theorem queuesSound_drainFifo {s : State} (h : QueuesSound s) (p : Port) :
    QueuesSound (drainFifo p Config.fifoSize (s.modPort p afterMessage)) := by
  have hfit := queuesFit_afterMessage h p
  have hself : (s.modPort p afterMessage).port p = afterMessage (s.port p) := port_modPort_same ..
  have hother (q : Port) (hq : q ≠ p) : FifoWaits ((s.modPort p afterMessage).port q) := by
    rw [port_modPort, if_neg hq]
    exact (h q).2.1
  have hstays (hw : FifoWaits ((s.modPort p afterMessage).port p)) : QueuesSound (s.modPort p afterMessage) :=
    (queuesSound_iff _).mpr ⟨hfit, fun q => if hq : q = p then hq ▸ hw else hother q hq⟩
  have hsent := replyCount_afterMessage (s.port p)
  cases hf : (s.port p).fifo with
  | nil =>
    have hnone : ((s.modPort p afterMessage).port p).fifo = [] := by rw [hself]; exact hf
    rw [drainFifo_waits p _ (.inr hnone)]
    exact hstays fun hne => absurd hnone hne
  | cons c rest =>
    have hfifo : ((s.modPort p afterMessage).port p).fifo = c :: rest := by rw [hself]; exact hf
    have h8 : replyCount (s.port p) = 8 := (h p).2.1 (hf ▸ List.cons_ne_nil _ _)
    have hle : replyCount ((s.modPort p afterMessage).port p) ≤ 8 := (hfit.bounded p).1
    have hge : 7 ≤ replyCount ((s.modPort p afterMessage).port p) := by rw [hself]; omega
    by_cases hfull : replyCount ((s.modPort p afterMessage).port p) = 8
    · rw [drainFifo_waits p _ (.inl hfull.ge)]
      exact hstays fun _ => hfull
    have h7 : replyCount ((s.modPort p afterMessage).port p) = 7 := by omega
    rw [show Config.fifoSize = 3 + 1 from rfl, drainFifo_first hfifo h7]
    exact queuesSound_firstWaiting hfit hother hfifo h7

theorem queuesSound_messageSent {p : Port} {s t : State} (h : QueuesSound s) (he : exec (.messageSent p) s = .next t) :
    QueuesSound t := by
  rw [exec_messageSent] at he
  cases he
  refine queuesSound_ite h (queuesSound_modPort (queuesSound_drainFifo h p) p ?_ ?_) <;> rw [lookAtQueue_eq]

/-! ### UPLINK_BOUNDARY -/

theorem takeMedia_sublist (q : List Message) : (takeMedia q).2.Sublist q := by
  induction q with
  | nil => exact .refl _
  | cons m q ih =>
    cases m with
    | reply r => exact ih.cons_cons _
    | media f => exact List.sublist_cons_self ..

theorem countP_media_takeMedia {q : List Message} (h : 0 < q.countP Message.isMedia) :
    (takeMedia q).2.countP Message.isMedia + 1 = q.countP Message.isMedia := by
  induction q with
  | nil => simp at h
  | cons m q ih =>
    cases m with
    | reply r => simpa [takeMedia, List.countP_cons, Message.isMedia] using ih (by simpa [Message.isMedia] using h)
    | media f => exact (List.countP_cons_of_pos rfl).symm

theorem takeOldest_sublist (q : PortLink) : (takeOldest q).2.Sublist q.outbound := by
  unfold takeOldest
  split
  next ho => rw [ho]; exact (takeMedia_sublist _).cons_cons _
  next => exact takeMedia_sublist _

/-- The frame under way counts, so of two media frames one can be taken (R184). -/
theorem countP_media_takeOldest {q : PortLink} (h : 2 ≤ mediaCount q) :
    (takeOldest q).2.countP Message.isMedia + 1 = mediaCount q := by
  unfold mediaCount at h ⊢
  unfold takeOldest
  split
  next m rest _ ho =>
    rw [ho, List.countP_cons] at h ⊢
    have hrest := countP_media_takeMedia (q := rest) (by split at h <;> omega)
    rw [List.countP_cons]
    omega
  next => exact countP_media_takeMedia (by omega)

theorem outbound_makeRoom (p q : Port) (s : State) : ((makeRoom p s).port q).outbound =
    if q = p ∧ 24 ≤ mediaCount (s.port p) then (takeOldest (s.port p)).2 else (s.port q).outbound := by
  have hmod (k : PortLink → PortLink) : (s.modPort p k).port q = if q = p then k (s.port q) else s.port q :=
    port_modPort ..
  unfold makeRoom
  split
  next hlt => rw [if_neg fun h => absurd hlt (Nat.not_lt.mpr h.2)]
  next hge =>
    have hfull : 24 ≤ mediaCount (s.port p) := Nat.le_of_not_lt hge
    simp only [hfull, and_true]
    split <;> simp only [port_modCtr, hmod] <;> split <;> rfl

theorem purges_makeRoom (p : Port) (s : State) : Purges s (makeRoom p s) := by
  refine purges_of_owners (fun l => ((calm_makeRoom p s).lines l).owner) fun q => ?_
  rw [outbound_makeRoom]
  split
  next h => rw [h.1]; exact takeOldest_sublist _
  next => exact .refl _

/-- A place is free for one more frame (R184). -/
theorem mediaCount_makeRoom {s : State} (h : QueuesSound s) (p : Port) : mediaCount ((makeRoom p s).port p) < 24 := by
  have hle : mediaCount (s.port p) ≤ 24 := (h p).1.2.1
  rw [mediaCount, outbound_makeRoom]
  split
  next hfull =>
    have := countP_media_takeOldest (q := s.port p) (by omega)
    omega
  next hroom => exact Nat.lt_of_not_le fun hge => hroom ⟨rfl, hge⟩

/-- A frame of its line's owner joins a queue with a free media place (R29, R183). -/
theorem queuesSound_enqueueMedia {s : State} (h : QueuesSound s) {p : Port} {f : MediaFrame}
    (ho : (s.line f.line).owner = some p) (hroom : mediaCount (s.port p) < 24) :
    QueuesSound (enqueueMessage p (.media f) s) := by
  have hline (l : Line) : (enqueueMessage p (.media f) s).line l = s.line l := line_modPort ..
  intro q
  rw [port_enqueueMessage]
  split
  next hq =>
    subst hq
    obtain ⟨⟨hreplies, -, hfifo⟩, hwaits, howned⟩ := h q
    have hsame : ((s.port q).outbound ++ [Message.media f]).countP Message.isReply = replyCount (s.port q) := by
      simp [replyCount, Message.isReply]
    refine ⟨⟨hsame.le.trans hreplies, ?_, hfifo⟩, fun hne => hsame.trans (hwaits hne), fun g hg => ?_⟩
    · simpa [mediaCount, Message.isMedia, Config.mediaPlaces] using hroom
    · rw [hline]
      obtain hg | hg := List.mem_append.mp hg
      · exact howned g hg
      · cases List.mem_singleton.mp hg
        exact ho
  next => exact ⟨(h q).1, (h q).2.1, fun g hg => by rw [hline]; exact (h q).2.2 g hg⟩

theorem queuesSound_modCtr {s : State} (h : QueuesSound s) (l : Line) (k : ChannelCounters → ChannelCounters) :
    QueuesSound (s.modCtr l k) :=
  queuesSound_calm h (calm_modCtr s l k) fun p => by rw [port_modCtr]

theorem queuesSound_routeUplink {s : State} (h : QueuesSound s) (f : MediaFrame) :
    QueuesSound (routeUplink f.line f s) := by
  unfold routeUplink
  split
  next p ho =>
    have hroom := queuesSound_purged h (calm_makeRoom p s) (purges_makeRoom p s)
    refine queuesSound_modCtr (queuesSound_enqueueMedia hroom ?_ (mediaCount_makeRoom h p)) _ _
    rw [((calm_makeRoom p s).lines f.line).owner, ho]
  next => exact queuesSound_modCtr h _ _

theorem queuesSound_uplinkBoundary {l : Line} {s t : State} (h : QueuesSound s)
    (he : exec (.uplinkBoundary l) s = .next t) : QueuesSound t := by
  cases he
  refine queuesSound_ite h (queuesSound_routeUplink (f := uplinkFrame l (s.line l).chan) ?_)
  exact queuesSound_work (w := fun t => t.modChan l afterUplink) h (calm_modChan s l afterUplink)
    fun _ _ _ _ => modChan_requeue ..

end Sys2Proof.Machine
end

section
/-! SUPPORT. Settled: every step keeps the port queues sound. Every row of the instruction set (R181 to R183). -/

namespace Sys2Proof.Machine

open Sys2Proof.Claim Sys2Proof.Safety

/-! ### Messages taken -/

theorem queuesSound_countForeign {s : State} (h : QueuesSound s) (p : Port) : QueuesSound (countForeign p s) :=
  queuesSound_modPort h p rfl rfl

theorem queuesSound_lineWork {l : Line} {s u : State} (h : QueuesSound s) (hc : Calm s u) (hw : LineWork l s u) :
    QueuesSound u :=
  queuesSound_calm h hc fun p => (hw.ports p).2.1

theorem queuesSound_routeFrame {s : State} (h : QueuesSound s) (p : Port) (f : MediaFrame) :
    QueuesSound (routeFrame p f s) := by
  refine queuesSound_lineWork (l := f.line) h (calm_routeFrame p f s) ?_
  unfold routeFrame
  dsimp only
  split
  · split
    · exact (lineWork_examineFrame ..).trans (lineWork_deliverFrame ..)
    · exact lineWork_modLine ..
  · exact lineWork_modLine ..

/-- A command that a WRITE takes is issued, and a body too short for one is counted (R177). -/
theorem queuesSound_commandTaken {p : Port} {body : List Byte} {s t : State} (h : QueuesSound s)
    (he : exec (.commandTaken p body) s = .next t) : QueuesSound t := by
  cases he
  refine queuesSound_ite h ?_
  split
  next c _ => exact queuesSound_issue h (executed_perform p c s) (purges_perform p c s)
  next => exact queuesSound_countForeign h p

/-- A media frame that a WRITE takes is routed, and a malformed one is counted (R180). -/
theorem queuesSound_mediaTaken {p : Port} {body : List Byte} {s t : State} (h : QueuesSound s)
    (he : exec (.mediaTaken p body) s = .next t) : QueuesSound t := by
  cases he
  refine queuesSound_ite h ?_
  split
  next f _ => exact queuesSound_routeFrame h p f
  next => exact queuesSound_modPort h p rfl rfl

/-! ### Transactions -/

theorem beginTransaction_queues (kind : Option Byte) (q : PortLink) :
    (beginTransaction kind q).fifo = q.fifo ∧ (beginTransaction kind q).outbound = q.outbound := by
  unfold beginTransaction
  split
  · exact ⟨rfl, rfl⟩
  · split
    · exact ⟨rfl, rfl⟩
    · split <;> exact ⟨rfl, rfl⟩

theorem queuesSound_chipSelectLow {s : State} (h : QueuesSound s) (p : Port) (kind : Option Byte) :
    QueuesSound (s.modPort p (beginTransaction kind)) :=
  queuesSound_modPort h p (beginTransaction_queues ..).1 (beginTransaction_queues ..).2

theorem queuesSound_chipSelectHigh {p : Port} {clocked : List Byte} {s t : State} (h : QueuesSound s)
    (he : exec (.chipSelectHigh p clocked) s = .next t) : QueuesSound t := by
  cases he
  have hend : QueuesSound (s.modPort p endTransaction) := queuesSound_modPort h p rfl rfl
  exact queuesSound_ite hend (queuesSound_latch (queuesSound_modPort hend p rfl rfl) p .framing)

/-! ### Time and the units of a line -/

theorem port_lineSample (rx1 rx2 : Sample) (s : State) (p : Port) : (passBlock (passMillisecond { s with
      line1 := sampleLine rx1 s.line1, line2 := sampleLine rx2 s.line2, ring := laterMoment s.ring
      tick := (s.tick + 1) % 40 })).port p = s.port p := by
  have hblock (t : State) : (passBlock t).port p = t.port p := by
    unfold passBlock
    split <;> cases p <;> rfl
  have hms (t : State) : (passMillisecond t).port p = t.port p := by
    unfold passMillisecond
    split <;> cases p <;> rfl
  rw [hblock, hms]
  cases p <;> rfl

theorem queuesSound_startTimer {s t : State} (h : QueuesSound s) (he : exec .startTimerExpiry s = .next t) :
    QueuesSound t := by
  cases he
  exact queuesSound_work (w := fun s => if startDue s.ring then
      let t := s.modRing fun a => { a with converter := .ready, startTimer := none }
      if t.ring.waitList = [] then judgeKeepWarm t else grantHead t
    else s) h (calm_startTimer s) fun _ _ _ _ => by
      simp only [requeue_ring, modRing_requeue, judgeKeepWarm_requeue, grantHead_requeue, requeue_ite]

/-- Every row but POWER_ON_RESET that is no command of a master: most leave every queue as it was. -/
theorem queuesSound_eventRow {c : Instr} {s t : State} (h : QueuesSound s) (hc : commandMessage c = none)
    (hreset : c ≠ .powerOnReset) (he : exec c s = .next t) : QueuesSound t := by
  cases c <;> cases hc
  case powerOnReset => exact absurd rfl hreset
  case chipSelectLow p kind => cases he; exact queuesSound_ite h (queuesSound_chipSelectLow h p kind)
  case chipSelectHigh => exact queuesSound_chipSelectHigh h he
  case commandTaken => exact queuesSound_commandTaken h he
  case foreignMessage p _ _ => cases he; exact queuesSound_ite h (queuesSound_countForeign h p)
  case mediaTaken => exact queuesSound_mediaTaken h he
  case messageSent => exact queuesSound_messageSent h he
  case uplinkBoundary => exact queuesSound_uplinkBoundary h he
  case startTimerExpiry => exact queuesSound_startTimer h he
  all_goals cases he
  case frameStart l =>
    exact queuesSound_ite h (queuesSound_work h (calm_beginPeriod l s) fun _ _ _ _ => beginPeriod_requeue ..)
  case agreementTimeout l =>
    exact queuesSound_ite h (queuesSound_lineWork h (calm_enterPresumed l _ s) (lineWork_enterPresumed l _ s))
  case filteredOffHookEdge l =>
    exact queuesSound_ite h (queuesSound_work h (calm_offHookEdge l s) fun _ _ _ _ => offHookEdge_requeue ..)
  case filteredOnHookEdge l =>
    exact queuesSound_ite h (queuesSound_lineWork h (calm_modSup s l _) (lineWork_modSup ..))
  case offHookQualified l =>
    exact queuesSound_ite h
      (queuesSound_work h (calm_completeQualification l s) fun _ _ _ _ => completeQualification_requeue ..)
  case hangUp l =>
    split
    next r _ =>
      exact queuesSound_work (w := doHangUp l r.flashMax) h (calm_doHangUp l _ s) fun _ _ _ _ => doHangUp_requeue ..
    next => exact h
  case interdigitExpiry l =>
    exact queuesSound_ite h (queuesSound_work h (calm_emitDigit l s) fun _ _ _ _ => emitDigit_requeue ..)
  case overcurrentStart l => exact queuesSound_lineWork h (calm_modLine ⟨rfl, rfl, id⟩ id) (lineWork_modLine ..)
  case overcurrentEnd l => exact queuesSound_lineWork h (calm_modSup s l _) (lineWork_modSup ..)
  case loopFault l =>
    exact queuesSound_ite h (queuesSound_work h (calm_declareFault l s) fun _ _ _ _ => declareFault_requeue ..)
  case faultRetryExpiry l =>
    exact queuesSound_ite h (queuesSound_lineWork h (calm_modLine ⟨rfl, rfl, id⟩ id) (lineWork_modLine ..))
  case feedRestored l =>
    exact queuesSound_ite h (queuesSound_lineWork h (calm_closeSeries l s)
      ((lineWork_modSup ..).trans (lineWork_emit ..)))
  case detectorBlockBoundary l a b =>
    exact queuesSound_ite h (queuesSound_lineWork h (calm_judgeReadings l _ _ s) (lineWork_judgeReadings ..))
  case stepTimerExpiry l =>
    refine queuesSound_ite h (queuesSound_work (w := fun s => advanceCadence l (if s.ring.converter = .driving l
      then endRinging true l s else s)) h ?_ fun _ _ _ _ => by simp [← requeue_ite])
    exact (calm_ite (calm_endRinging true l s) (.refl s)).trans (calm_advanceCadence l _)
  case keepWarmExpiry =>
    exact queuesSound_ite h (queuesSound_calm h (calm_modRing s _) fun p => by rw [port_modRing])
  case cidDone l =>
    exact queuesSound_ite h
      (queuesSound_work h (calm_completeTransmission l s) fun _ _ _ _ => completeTransmission_requeue ..)
  case hookSample l b => exact queuesSound_lineWork h (calm_modSup s l _) (lineWork_modSup ..)
  case lineSample rx1 rx2 => exact queuesSound_calm h calm_lineSample fun p => by rw [port_lineSample]

/-! ### Every step -/

/-- The commands still to come are no part of the ports. -/
theorem queuesSound_pending {s : State} (h : QueuesSound s) (q : List Instr) : QueuesSound { s with pending := q } := by
  have hport (p : Port) : ({ s with pending := q } : State).port p = s.port p := by cases p <;> rfl
  have hline (l : Line) : ({ s with pending := q } : State).line l = s.line l := by cases l <;> rfl
  intro p
  simp only [hport, hline]
  exact h p

theorem queuesSound_reset : QueuesSound State.reset :=
  fun p => by cases p <;> exact ⟨⟨by decide, by decide, by decide⟩, fun h => absurd rfl h, nofun⟩

theorem exec_queuesSound {c : Instr} {s t : State} (h : QueuesSound s) (he : exec c s = .next t) : QueuesSound t := by
  cases hc : commandMessage c with
  | some m => exact queuesSound_commandRow h hc he
  | none =>
    by_cases hreset : c = .powerOnReset
    · subst hreset
      cases he
      exact queuesSound_pending queuesSound_reset s.pending
    · exact queuesSound_eventRow h hc hreset he

/-- Settles O15: a reply takes the only free place, and a media frame comes from its line's owner. -/
theorem queuesKeptSound : Obligations.QueuesKeptSound := fun _ _ hs h =>
  step_keeps (Inv := QueuesSound) (fun _ q hi => queuesSound_pending hi q)
    (fun _ _ _ hi he => exec_queuesSound hi he) hs h

end Sys2Proof.Machine
end

section
/-! SUPPORT. Settled: a step runs the command at the front of the queue (log 1). -/

namespace Sys2Proof.Machine

/-- The state from which the front command runs has already lost it from its queue. -/
theorem step_of_pending_cons {s : State} {c : Instr} {rest : List Instr} (h : s.pending = c :: rest) :
    step s = exec c { s with pending := rest } := by
  unfold step
  rw [h]

/-- Settles O1: placing a command at the front replaces only the queue, so the step takes that command and the rest stays. -/
theorem stepRunsFrontCommand : Obligations.StepRunsFrontCommand := fun c rest s =>
  step_of_pending_cons (s := { s with pending := c :: rest }) rfl

end Sys2Proof.Machine
end
